-- ==== Sys2Proof/Word.lean ====
section
/-! DEFINITION. The word types of the block (spec 00_scope.md R9, R12, R16; 30_encoding.md R96, R99). -/

namespace Sys2Proof

/-- `u32`: the integers `0 .. 2^32-1` (R9). Configuration registers, tick values and duty values. -/
abbrev U32 := BitVec 32

/-- A transmit symbol is one byte (R16, R83). -/
abbrev Byte := BitVec 8

/-- An operation word: exactly 16 bits (R96, R99). -/
abbrev OpWord := BitVec 16

/-- A result code: an 8-bit value, one of whose bits is ORed into others (R281). -/
abbrev Code := BitVec 8

end Sys2Proof
end

