-- ==== Sys2Proof/Config.lean ====
section
/-! DEFINITION. What an instance of the block fixes: the constants and OPEN parameters of 00_scope.md R7, and
the one free value of the rules (40_capture.md R130). -/

namespace Sys2Proof

namespace Config

/-- `N_CORR`: correlation ring slots (R7). -/
abbrev nCorr : Nat := 12

/-- `Q_CAP`: TxQueue slots (R7). -/
abbrev qCap : Nat := 5

/-- `SYM_CAP`: the most symbols one word or one queue entry holds (R7, 90_conflicts.md C2). -/
abbrev symCap : Nat := 65

/-- `DUTY_CAP`: the most entries of a prepared frame, `SYM_CAP` and a terminator (R7, 90_conflicts.md C1). -/
abbrev dutyCap : Nat := 66

/-- The longest string the `S` port carries (30_encoding.md R101). -/
abbrev stringCap : Nat := 255

/-- `GAP_NUM` of the period limit factor 13/10 (R7, 10_state.md R32). -/
abbrev gapNum : Nat := 13

/-- `GAP_DEN` of the period limit factor 13/10 (R7, 10_state.md R32). -/
abbrev gapDen : Nat := 10

/-- The value of the `n`-th draw of a run (R13 `draw v : ℕ`). It has no body: nothing can be proved of which
natural number it is. The one rule that draws is the extended count of R130, when a capture and its
overflow have raced (70_reset_and_hazards.md R321). The form of the draw is a DESIGN CHOICE (log entry 7). -/
opaque draw : Nat → Nat

end Config

/-- The thirteen configuration registers (10_state.md R31). -/
inductive CfgReg where
  | timeoutUs | matchThresh | minWordLen | maxWordLen | maxBitPeriod | txShort | txLong
  | frameDelayMs | burstDelayMs | repeatCount | invertLogic | ignoreSync | rxMode
deriving DecidableEq, Repr

/-- The configuration register file: each register is a `u32` (10_state.md R31, R33). -/
structure CfgRegs where
  /-- `TIMEOUT_US`, the correlation timeout in microseconds. -/
  timeoutUs : U32
  /-- `MATCH_THRESH`, the majority-vote threshold. -/
  matchThresh : U32
  /-- `MIN_WORD_LEN`, the minimum accepted word length. -/
  minWordLen : U32
  /-- `MAX_WORD_LEN`, the maximum accepted word length. -/
  maxWordLen : U32
  /-- `MAX_BIT_PERIOD`, the maximum bit period in capture ticks. -/
  maxBitPeriod : U32
  /-- `TX_SHORT`, the short pulse duty value. -/
  txShort : U32
  /-- `TX_LONG`, the long pulse duty value. -/
  txLong : U32
  /-- `FRAME_DELAY_MS`, the inter-frame delay. -/
  frameDelayMs : U32
  /-- `BURST_DELAY_MS`, the inter-burst delay. -/
  burstDelayMs : U32
  /-- `REPEAT_COUNT`, the configured repeat count. -/
  repeatCount : U32
  /-- `INVERT_LOGIC`, 0 or 1 (R36). -/
  invertLogic : U32
  /-- `IGNORE_SYNC`, 0 or 1 (R36). -/
  ignoreSync : U32
  /-- `RX_MODE`: 0 `OFF`, 1 `ALWAYS_ON`, 2 `OFF_DURING_TX` (R35). -/
  rxMode : U32
deriving DecidableEq, Repr

/-- One range of values that the lost per-field bounds forbid (45_config.md R238): every predicate over the
thirteen `u32` registers is a list of such ranges (DESIGN CHOICE, log entry 2). -/
structure ForbiddenRange where
  reg : CfgReg
  lo : U32
  hi : U32
deriving DecidableEq, Repr

/-- The OPEN parameters of the instance (00_scope.md R7, 10_state.md R34): a model takes each as an argument. -/
structure Params where
  /-- `SAMPLE_CAP`, sample ring slots; an integer at least 2. -/
  sampleCap : Nat
  /-- `TIMER_MOD`, counts per capture-counter overflow; an integer at least 2. -/
  timerMod : Nat
  /-- `SAMPLE_BITS`, the width of a stored period or width; large enough that no value is cut off
  (00_scope.md R11, 93_implementation_defined.md U11; log entry 13). -/
  sampleBits : Nat
  /-- `FRAMES_SENT_INIT`, `frames_sent` at burst start; the spec's default is 0. -/
  framesSentInit : U32
  /-- `CFG_EXTRA_BOUNDS`, as what it forbids; the spec's default is "none". -/
  extraBounds : List ForbiddenRange
  rstMinWordLen : U32
  rstMaxWordLen : U32
  rstMaxBitPeriod : U32
  rstTxShort : U32
  rstTxLong : U32
  rstFrameDelayMs : U32
  rstBurstDelayMs : U32
  rstRepeatCount : U32
  rstInvertLogic : U32
  rstIgnoreSync : U32
  rstRxMode : U32
deriving DecidableEq, Repr

end Sys2Proof
end

