-- ==== Sys2Proof/Machine/RegFile.lean ====
section
/-! DEFINITION. The configuration register file: whole-register reads and writes (20_memory.md R83), the
legality conditions of 10_state.md R31, the extra bounds of 45_config.md R238 and the reset values of R31. -/

namespace Sys2Proof

/-- Read one register, all 32 bits (R33, R83). -/
def CfgRegs.get (c : CfgRegs) : CfgReg → U32
  | .timeoutUs => c.timeoutUs
  | .matchThresh => c.matchThresh
  | .minWordLen => c.minWordLen
  | .maxWordLen => c.maxWordLen
  | .maxBitPeriod => c.maxBitPeriod
  | .txShort => c.txShort
  | .txLong => c.txLong
  | .frameDelayMs => c.frameDelayMs
  | .burstDelayMs => c.burstDelayMs
  | .repeatCount => c.repeatCount
  | .invertLogic => c.invertLogic
  | .ignoreSync => c.ignoreSync
  | .rxMode => c.rxMode

/-- Replace one register, all 32 bits (R83). -/
def CfgRegs.set (c : CfgRegs) (r : CfgReg) (v : U32) : CfgRegs :=
  match r with
  | .timeoutUs => { c with timeoutUs := v }
  | .matchThresh => { c with matchThresh := v }
  | .minWordLen => { c with minWordLen := v }
  | .maxWordLen => { c with maxWordLen := v }
  | .maxBitPeriod => { c with maxBitPeriod := v }
  | .txShort => { c with txShort := v }
  | .txLong => { c with txLong := v }
  | .frameDelayMs => { c with frameDelayMs := v }
  | .burstDelayMs => { c with burstDelayMs := v }
  | .repeatCount => { c with repeatCount := v }
  | .invertLogic => { c with invertLogic := v }
  | .ignoreSync => { c with ignoreSync := v }
  | .rxMode => { c with rxMode := v }

/-- `legal(SEL, V)`: the column "legal values (SET)" of R31. A condition that names another register reads its
current value (R237). -/
def CfgRegs.legal (c : CfgRegs) (r : CfgReg) (v : U32) : Bool :=
  match r with
  | .minWordLen => v.toNat ≤ c.maxWordLen.toNat
  | .maxWordLen => c.minWordLen.toNat ≤ v.toNat
  | .txShort => v.toNat ≤ c.txLong.toNat
  | .txLong => c.txShort.toNat ≤ v.toNat
  | .invertLogic => v.toNat ≤ 1
  | .ignoreSync => v.toNat ≤ 1
  | .rxMode => v.toNat ≤ 2
  | .timeoutUs | .matchThresh | .maxBitPeriod | .frameDelayMs | .burstDelayMs | .repeatCount => true

/-- `CFG_EXTRA_BOUNDS(SEL, V)`: no forbidden range of the register holds the value (R238). With no ranges, the
spec's default, it is true for every value. -/
def Params.allows (p : Params) (r : CfgReg) (v : U32) : Bool :=
  p.extraBounds.all fun b => !(b.reg == r && b.lo.toNat ≤ v.toNat && v.toNat ≤ b.hi.toNat)

/-- `(OVF_CAP(M) + 1) * TIMER_MOD` for the largest value of `MAX_BIT_PERIOD`, any `u32` (10_state.md R31): the
value that `SAMPLE_BITS` must hold (00_scope.md R11). -/
def Params.countLimit (p : Params) : Nat := ((2 ^ 32 - 1) / p.timerMod + 2 + 1) * p.timerMod

/-- The registers at reset: the source's two defaults and the `RST_*` parameters (R31, R34). -/
def CfgRegs.reset (p : Params) : CfgRegs where
  timeoutUs := 100000#32
  matchThresh := 3#32
  minWordLen := p.rstMinWordLen
  maxWordLen := p.rstMaxWordLen
  maxBitPeriod := p.rstMaxBitPeriod
  txShort := p.rstTxShort
  txLong := p.rstTxLong
  frameDelayMs := p.rstFrameDelayMs
  burstDelayMs := p.rstBurstDelayMs
  repeatCount := p.rstRepeatCount
  invertLogic := p.rstInvertLogic
  ignoreSync := p.rstIgnoreSync
  rxMode := p.rstRxMode

/-- DESIGN CHOICE (log entry 1), unsafe: the one instance that `State.reset` stands for, the instance of the
spec's own vectors (95_test_vectors.md section 0), with the least `SAMPLE_BITS` that R11 admits for their
`TIMER_MOD`, which the vectors do not name. The parameters are OPEN in the spec (R7, R34), and the
statements are made for all of them; only a statement about `State.reset` itself rests on these numbers. -/
def Params.vectors : Params where
  sampleCap := 16
  timerMod := 65536
  sampleBits := 33
  framesSentInit := 0#32
  extraBounds := []
  rstMinWordLen := 1#32
  rstMaxWordLen := 64#32
  rstMaxBitPeriod := 5000#32
  rstTxShort := 300#32
  rstTxLong := 700#32
  rstFrameDelayMs := 5#32
  rstBurstDelayMs := 10#32
  rstRepeatCount := 0#32
  rstInvertLogic := 0#32
  rstIgnoreSync := 0#32
  rstRxMode := 1#32

end Sys2Proof
end

