-- ==== Sys2Proof/Syntax.lean ====
section
/-! DEFINITION. The operations of the block (30_encoding.md R100, R108, R109, R110), one constructor for each row
of spec/opcode_table.json, and what travels beside an operation word: the payload ports (R101). -/

namespace Sys2Proof

/-- The operation set: one constructor per opcode-table row. An operation word has no operand field but its
selector (R102), which names the operation, so no constructor takes an argument; the data comes on the
payload ports (R101). -/
inductive Instr where
  /-- 0x0100, rising edge captured (R131). -/
  | rise
  /-- 0x0200, falling edge captured (R135). -/
  | fall
  /-- 0x0300, capture-counter overflow (R137). -/
  | ovf
  /-- 0x0400, pulse train finished (R215). -/
  | txdone
  /-- 0x1000, word-boundary detection (R139). -/
  | bchk
  /-- 0x1100, consume one window and assemble words (R152). -/
  | build
  /-- 0x1200, present one word candidate to the matcher (R181). -/
  | submit
  /-- 0x1300, one scheduler step (R201). -/
  | sched
  /-- 0x2000, enqueue an outgoing word (R226). -/
  | enq
  /-- 0xF000, reset the block (R311). -/
  | rst
  | setTimeoutUs | setMatchThresh | setMinWordLen | setMaxWordLen | setMaxBitPeriod | setTxShort | setTxLong
  | setFrameDelayMs | setBurstDelayMs | setRepeatCount | setInvertLogic | setIgnoreSync | setRxMode
  | getTimeoutUs | getMatchThresh | getMinWordLen | getMaxWordLen | getMaxBitPeriod | getTxShort | getTxLong
  | getFrameDelayMs | getBurstDelayMs | getRepeatCount | getInvertLogic | getIgnoreSync | getRxMode
  | getStatus | getQcount | getStorIdx | getProcIdx | getTgtIdx | getCorrWidx | getFramesSent | getOvfCount
deriving DecidableEq, Repr

/-- The eight read-only registers (10_state.md R49, R50). -/
inductive ViewReg where
  | status | qcount | storIdx | procIdx | tgtIdx | corrWidx | framesSent | ovfCount
deriving DecidableEq, Repr

/-- A candidate record (10_state.md R40). `length` is `len(bits)` (`Candidate.length`; log entry 9), and a bit is a
`Bool`, `true` for 1 (log entry 8). -/
structure Candidate where
  /-- First symbol received first (20_memory.md R72). -/
  bits : List Bool
  longUs : Nat
  shortUs : Nat
  periodUs : Nat
  /-- The `INVERT_LOGIC` value recorded at finalization. -/
  polarity : Bool
deriving DecidableEq, Repr

/-- `length = len(bits)` (10_state.md R40). -/
abbrev Candidate.length (k : Candidate) : Nat := k.bits.length

/-- The payload ports (30_encoding.md R101). Every port carries a value at every operation; an operation reads
only the ports R100 lists for it. -/
structure Ports where
  /-- `C`, a capture-counter value. -/
  c : Nat
  /-- `T`, `now_ms()` when the operation executes. -/
  t : U32
  /-- `V`, the value a SET writes. -/
  v : U32
  /-- `S`, the string ENQ enqueues, first symbol sent first. -/
  s : List Byte
  /-- `K`, the candidate SUBMIT takes. -/
  k : Candidate
deriving DecidableEq, Repr

/-- One operation as the environment issues it: the operation word, and the payload beside it (R96, R101). -/
structure Issue where
  word : OpWord
  ports : Ports
deriving DecidableEq, Repr

/-- The contexts of 10_state.md R20 and the table of R100; RST is the reset input of either. -/
inductive Context where
  | interrupt | loop | either
deriving DecidableEq, Repr

/-- The names of the ports, for R100's column "ports read". -/
inductive PortName where
  | c | t | v | s | k
deriving DecidableEq, Repr

end Sys2Proof
end

