-- ==== Sys2Proof/WellFormed.lean ====
section
/-! DEFINITION. What a well-formed instance and a well-formed operation are. An operation word has no operand
fields (30_encoding.md R102), so every `Instr` is well formed as syntax; what can be ill formed is the payload on
the ports an operation reads (R101, R103) and the instance's parameters (00_scope.md R7, 10_state.md R34). -/

namespace Sys2Proof

/-- The column "ports read" of R100. -/
def Instr.portsRead : Instr → List PortName
  | .rise | .fall | .bchk => [.c]
  | .txdone | .build | .sched => [.t]
  | .submit => [.k, .t]
  | .enq => [.s]
  | .ovf | .rst => []
  | .setTimeoutUs | .setMatchThresh | .setMinWordLen | .setMaxWordLen | .setMaxBitPeriod | .setTxShort | .setTxLong
  | .setFrameDelayMs | .setBurstDelayMs | .setRepeatCount | .setInvertLogic | .setIgnoreSync | .setRxMode => [.v]
  | .getTimeoutUs | .getMatchThresh | .getMinWordLen | .getMaxWordLen | .getMaxBitPeriod | .getTxShort | .getTxLong
  | .getFrameDelayMs | .getBurstDelayMs | .getRepeatCount | .getInvertLogic | .getIgnoreSync | .getRxMode
  | .getStatus | .getQcount | .getStorIdx | .getProcIdx | .getTgtIdx | .getCorrWidx | .getFramesSent
  | .getOvfCount => []

/-- The column "context" of R100 (10_state.md R20). -/
def Instr.context : Instr → Context
  | .rise | .fall | .ovf | .txdone => .interrupt
  | .rst => .either
  | .bchk | .build | .submit | .sched | .enq
  | .setTimeoutUs | .setMatchThresh | .setMinWordLen | .setMaxWordLen | .setMaxBitPeriod | .setTxShort | .setTxLong
  | .setFrameDelayMs | .setBurstDelayMs | .setRepeatCount | .setInvertLogic | .setIgnoreSync | .setRxMode
  | .getTimeoutUs | .getMatchThresh | .getMinWordLen | .getMaxWordLen | .getMaxBitPeriod | .getTxShort | .getTxLong
  | .getFrameDelayMs | .getBurstDelayMs | .getRepeatCount | .getInvertLogic | .getIgnoreSync | .getRxMode
  | .getStatus | .getQcount | .getStorIdx | .getProcIdx | .getTgtIdx | .getCorrWidx | .getFramesSent
  | .getOvfCount => .loop

/-- The domain of each port (R101). `T` and `V` are all of `u32`, and a polarity is a bit by its type. -/
def Ports.inDomain (p : Params) (port : Ports) : PortName → Bool
  | .c => port.c < p.timerMod
  | .t => true
  | .v => true
  | .s => port.s.length ≤ Config.stringCap
  | .k => port.k.length ≤ Config.symCap

/-- The payload is in the domain of every port the operation reads (R103). -/
def Instr.wellFormed (i : Instr) (p : Params) (port : Ports) : Bool :=
  i.portsRead.all (port.inDomain p)

/-- The ordering invariants and the legal values of R31, as a condition on the whole register file
(45_config.md R263). -/
def CfgRegs.wellFormed (c : CfgRegs) : Bool :=
  c.minWordLen.toNat ≤ c.maxWordLen.toNat && c.txShort.toNat ≤ c.txLong.toNat
    && c.invertLogic.toNat ≤ 1 && c.ignoreSync.toNat ≤ 1 && c.rxMode.toNat ≤ 2

/-- Every configuration register, for the check of the extra bounds. -/
def CfgReg.all : List CfgReg :=
  [.timeoutUs, .matchThresh, .minWordLen, .maxWordLen, .maxBitPeriod, .txShort, .txLong,
   .frameDelayMs, .burstDelayMs, .repeatCount, .invertLogic, .ignoreSync, .rxMode]

/-- A legal instance: `SAMPLE_CAP` and `TIMER_MOD` are at least 2 and `SAMPLE_BITS` cuts no value off (R7, R11), the
reset values are legal (R34) and the extra bounds keep them legal (R238). -/
def Params.wellFormed (p : Params) : Bool :=
  2 ≤ p.sampleCap && 2 ≤ p.timerMod && p.countLimit < 2 ^ p.sampleBits && (CfgRegs.reset p).wellFormed
    && CfgReg.all.all fun r => p.allows r ((CfgRegs.reset p).get r)

end Sys2Proof
end

