-- ==== Sys2Proof/Decode.lean ====
section
/-! DEFINITION. The decoder, total on every 16-bit word (30_encoding.md R117), and the encoder, written from the
words of R108, R109 and R110. -/

namespace Sys2Proof

/-- `w[15:8]`, the operation code (R96). -/
def opcOf (w : OpWord) : BitVec 8 := w.extractLsb' 8 8

/-- `w[7:0]`, the selector (R96, R102). -/
def selOf (w : OpWord) : BitVec 8 := w.extractLsb' 0 8

/-- Why a word is reserved (R111). A reserved word executes as the illegal operation (R112). -/
inductive Reserved where
  /-- An `OPC` not in R100, including 0x00 and the extension codes 0xE0 to 0xEF. -/
  | opcode (opc : BitVec 8)
  /-- A Format E `OPC` with `SEL` not 0x00. -/
  | formatESelector (opc sel : BitVec 8)
  /-- A SET of a read-only register, `SEL` 0x20 to 0x27 (R108). -/
  | setReadOnly (sel : BitVec 8)
  /-- A SET with any other `SEL` outside 0x00 to 0x0C. -/
  | setSelector (sel : BitVec 8)
  /-- A GET with a `SEL` outside 0x00 to 0x0C and 0x20 to 0x27. -/
  | getSelector (sel : BitVec 8)
deriving DecidableEq, Repr

/-- The Format E operation of an operation code (R97, R100). -/
def decodeEvent (opc : BitVec 8) : Option Instr :=
  if opc = 0x01#8 then some .rise
  else if opc = 0x02#8 then some .fall
  else if opc = 0x03#8 then some .ovf
  else if opc = 0x04#8 then some .txdone
  else if opc = 0x10#8 then some .bchk
  else if opc = 0x11#8 then some .build
  else if opc = 0x12#8 then some .submit
  else if opc = 0x13#8 then some .sched
  else if opc = 0x20#8 then some .enq
  else if opc = 0xF0#8 then some .rst
  else none

/-- The SET operation of a selector (R108). -/
def decodeSet (sel : BitVec 8) : Option Instr :=
  if sel = 0x00#8 then some .setTimeoutUs
  else if sel = 0x01#8 then some .setMatchThresh
  else if sel = 0x02#8 then some .setMinWordLen
  else if sel = 0x03#8 then some .setMaxWordLen
  else if sel = 0x04#8 then some .setMaxBitPeriod
  else if sel = 0x05#8 then some .setTxShort
  else if sel = 0x06#8 then some .setTxLong
  else if sel = 0x07#8 then some .setFrameDelayMs
  else if sel = 0x08#8 then some .setBurstDelayMs
  else if sel = 0x09#8 then some .setRepeatCount
  else if sel = 0x0A#8 then some .setInvertLogic
  else if sel = 0x0B#8 then some .setIgnoreSync
  else if sel = 0x0C#8 then some .setRxMode
  else none

/-- The GET operation of a selector (R109). -/
def decodeGet (sel : BitVec 8) : Option Instr :=
  if sel = 0x00#8 then some .getTimeoutUs
  else if sel = 0x01#8 then some .getMatchThresh
  else if sel = 0x02#8 then some .getMinWordLen
  else if sel = 0x03#8 then some .getMaxWordLen
  else if sel = 0x04#8 then some .getMaxBitPeriod
  else if sel = 0x05#8 then some .getTxShort
  else if sel = 0x06#8 then some .getTxLong
  else if sel = 0x07#8 then some .getFrameDelayMs
  else if sel = 0x08#8 then some .getBurstDelayMs
  else if sel = 0x09#8 then some .getRepeatCount
  else if sel = 0x0A#8 then some .getInvertLogic
  else if sel = 0x0B#8 then some .getIgnoreSync
  else if sel = 0x0C#8 then some .getRxMode
  else if sel = 0x20#8 then some .getStatus
  else if sel = 0x21#8 then some .getQcount
  else if sel = 0x22#8 then some .getStorIdx
  else if sel = 0x23#8 then some .getProcIdx
  else if sel = 0x24#8 then some .getTgtIdx
  else if sel = 0x25#8 then some .getCorrWidx
  else if sel = 0x26#8 then some .getFramesSent
  else if sel = 0x27#8 then some .getOvfCount
  else none

/-- Decode one operation word, or say why it is reserved (R117, R111). -/
def decode (w : OpWord) : Except Reserved Instr :=
  let opc := opcOf w
  let sel := selOf w
  if opc = 0x30#8 then
    match decodeSet sel with
    | some i => .ok i
    | none => if 0x20#8 ≤ sel ∧ sel ≤ 0x27#8 then .error (.setReadOnly sel) else .error (.setSelector sel)
  else if opc = 0x31#8 then
    match decodeGet sel with
    | some i => .ok i
    | none => .error (.getSelector sel)
  else
    match decodeEvent opc with
    | some i => if sel = 0x00#8 then .ok i else .error (.formatESelector opc sel)
    | none => .error (.opcode opc)

/-- The word of an operation (R108, R109, R110). -/
def encode : Instr → OpWord
  | .rise => 0x0100#16
  | .fall => 0x0200#16
  | .ovf => 0x0300#16
  | .txdone => 0x0400#16
  | .bchk => 0x1000#16
  | .build => 0x1100#16
  | .submit => 0x1200#16
  | .sched => 0x1300#16
  | .enq => 0x2000#16
  | .rst => 0xF000#16
  | .setTimeoutUs => 0x3000#16
  | .setMatchThresh => 0x3001#16
  | .setMinWordLen => 0x3002#16
  | .setMaxWordLen => 0x3003#16
  | .setMaxBitPeriod => 0x3004#16
  | .setTxShort => 0x3005#16
  | .setTxLong => 0x3006#16
  | .setFrameDelayMs => 0x3007#16
  | .setBurstDelayMs => 0x3008#16
  | .setRepeatCount => 0x3009#16
  | .setInvertLogic => 0x300A#16
  | .setIgnoreSync => 0x300B#16
  | .setRxMode => 0x300C#16
  | .getTimeoutUs => 0x3100#16
  | .getMatchThresh => 0x3101#16
  | .getMinWordLen => 0x3102#16
  | .getMaxWordLen => 0x3103#16
  | .getMaxBitPeriod => 0x3104#16
  | .getTxShort => 0x3105#16
  | .getTxLong => 0x3106#16
  | .getFrameDelayMs => 0x3107#16
  | .getBurstDelayMs => 0x3108#16
  | .getRepeatCount => 0x3109#16
  | .getInvertLogic => 0x310A#16
  | .getIgnoreSync => 0x310B#16
  | .getRxMode => 0x310C#16
  | .getStatus => 0x3120#16
  | .getQcount => 0x3121#16
  | .getStorIdx => 0x3122#16
  | .getProcIdx => 0x3123#16
  | .getTgtIdx => 0x3124#16
  | .getCorrWidx => 0x3125#16
  | .getFramesSent => 0x3126#16
  | .getOvfCount => 0x3127#16

/-- The operation word in the low bits of an opcode-table word. Every operation is exactly one 16-bit word
(R99), and the block has no byte order (20_memory.md R72), so the table's bits are the word's bits (DEDUCED, log entry 14). -/
def tableWord (nbits w : Nat) : OpWord := BitVec.ofNat 16 (w % 2 ^ nbits)

/-- What the decoder reads from a word of spec/opcode_table.json; `none` where it is reserved. -/
def decodeTableWord (nbits w : Nat) : Option Instr := (decode (tableWord nbits w)).toOption

end Sys2Proof
end

