-- ==== Sys2Proof/Machine/Parts.lean ====
section
/-! DEFINITION. The parts of the block's state (10_state.md sections 3, 5, 6, 7 and 8) as plain data. -/

namespace Sys2Proof.Machine

/-- One slot of the sample ring (R24). -/
structure Sample where
  /-- `per[i]`, in microseconds. -/
  period : Nat
  /-- `wid[i]`, in microseconds. -/
  width : Nat
  /-- `wv[i]`: a width has been recorded since the slot was last cleared. -/
  valid : Bool
deriving DecidableEq, Repr

/-- SampleCapture (R24 to R30). -/
structure Capture where
  /-- The sample ring: `SAMPLE_CAP` slots, indexed from 0 (R24). -/
  ring : List Sample
  /-- `stor_idx`, the next write slot (R25). -/
  storIdx : Nat
  /-- `proc_idx`, the next unconsumed slot (R26). -/
  procIdx : Nat
  /-- `tgt_idx`, the snapshot boundary of the window (R27). -/
  tgtIdx : Nat
  /-- `ovf`, the overflow counter (R29). -/
  ovf : Nat
  /-- `last_rise`, the capture value of the most recent rising edge (R30). -/
  lastRise : Nat
deriving DecidableEq, Repr

/-- The class of a pulse (R38). -/
inductive PulseClass where
  | short | long
deriving DecidableEq, Repr

/-- A position record (R38). -/
structure PosRec where
  cls : PulseClass
  width : Nat
  period : Nat
deriving DecidableEq, Repr

/-- The WordBuilder accumulator (R37). -/
structure Acc where
  /-- Samples consumed into the current word, counting a synchronization sample. -/
  nsamp : Nat
  /-- Symbols emitted, at most `SYM_CAP`. -/
  len : Nat
  bits : Vector Bool Config.symCap
  recs : Vector PosRec Config.symCap
deriving DecidableEq, Repr

/-- The CorrelationMatcher (R39, R41 to R43). A slot number is below `N_CORR` by its type. -/
structure Corr where
  /-- The correlation ring; `none` is `EMPTY`. -/
  slots : Vector (Option Candidate) Config.nCorr
  /-- `widx`, the write index. -/
  widx : Fin Config.nCorr
  /-- `lc`, `last_confirmed`: `none` is `NONE`. -/
  lc : Option (Fin Config.nCorr)
  lastInsertMs : U32
deriving DecidableEq, Repr

/-- `bstate` (R44). -/
inductive BurstState where
  | idle | active
deriving DecidableEq, Repr

/-- `fstate` (R44), meaningful only in an active burst. -/
inductive FrameState where
  | idle | inFlight
deriving DecidableEq, Repr

/-- The frame buffer `frm` (R45). -/
structure Frame where
  duty : Vector U32 Config.dutyCap
  len : Nat
  framesSent : U32
  frameComplete : Bool
  burstComplete : Bool
  lastFrameMs : U32
deriving DecidableEq, Repr

/-- The BurstScheduler's state and the three state bits of the transmit side and the radio (R44 to R46). -/
structure Sched where
  bstate : BurstState
  fstate : FrameState
  frm : Frame
  txActive : Bool
  rxExcl : Bool
  radioOn : Bool
deriving DecidableEq, Repr

/-- The TxQueue (R47): five slots, an empty one `none`, and the number of occupied slots. -/
structure TxQueue where
  slots : Vector (Option (List Byte)) Config.qCap
  count : Nat
deriving DecidableEq, Repr

/-- The three sticky fault bits, `STATUS` bits 8 to 10 (R49). -/
inductive FaultBit where
  /-- `FAULT_OVR`, sample-ring overrun (60_exceptions.md R285). -/
  | ovr
  /-- `FAULT_DIV0`, zero window period mode (R286). -/
  | div0
  /-- `FAULT_WOVF`, word symbol overflow (R287). -/
  | wovf
deriving DecidableEq, Repr

/-- The storage of the fault bits (R49). -/
structure FaultBits where
  ovr : Bool
  div0 : Bool
  wovf : Bool
deriving DecidableEq, Repr

/-- The output events (R48). -/
inductive Event where
  /-- The confirmed-word notification. -/
  | confirm (bits : List Bool) (length longUs shortUs periodUs : Nat) (polarity : Bool)
  | radioEnable
  | radioDisable
  /-- `start_pulse_train(duty_sequence, length)` (43_scheduler.md R220). -/
  | pulseTrain (duty : List U32) (length : Nat)
  | startCapture
deriving DecidableEq, Repr

end Sys2Proof.Machine
end

