-- ==== Sys2Proof/Machine/ResetValues.lean ====
section
/-! DEFINITION. The reset value of every part of the state (10_state.md R54). -/

namespace Sys2Proof.Machine

/-- A cleared slot of the sample ring (R24). -/
def Sample.clean : Sample where
  period := 0
  width := 0
  valid := false

/-- SampleCapture at reset: `SAMPLE_CAP` clean slots and every cursor and counter 0 (R24 to R30). -/
def Capture.reset (p : Params) : Capture where
  ring := List.replicate p.sampleCap Sample.clean
  storIdx := 0
  procIdx := 0
  tgtIdx := 0
  ovf := 0
  lastRise := 0

/-- The reset value of a position record (R37). -/
def PosRec.clear : PosRec where
  cls := .short
  width := 0
  period := 0

/-- The empty accumulator (R37); finalization leaves it too (41_wordbuilder.md R159). -/
def Acc.clear : Acc where
  nsamp := 0
  len := 0
  bits := Vector.replicate Config.symCap false
  recs := Vector.replicate Config.symCap PosRec.clear

/-- The matcher at reset (R39, R41 to R43). -/
def Corr.reset : Corr where
  slots := Vector.replicate Config.nCorr none
  widx := 0
  lc := none
  lastInsertMs := 0#32

/-- The frame buffer at reset (R45). -/
def Frame.reset : Frame where
  duty := Vector.replicate Config.dutyCap 0#32
  len := 0
  framesSent := 0#32
  frameComplete := false
  burstComplete := true
  lastFrameMs := 0#32

/-- The scheduler and radio bits at reset: `radio_on = (RST_RX_MODE != OFF)` (R44 to R46). -/
def Sched.reset (p : Params) : Sched where
  bstate := .idle
  fstate := .idle
  frm := Frame.reset
  txActive := false
  rxExcl := false
  radioOn := decide (p.rstRxMode ≠ 0#32)

/-- The empty queue (R47). -/
def TxQueue.reset : TxQueue where
  slots := Vector.replicate Config.qCap none
  count := 0

/-- No fault bit set (R49). -/
def FaultBits.reset : FaultBits where
  ovr := false
  div0 := false
  wovf := false

/-- What RST appends to the output log (70_reset_and_hazards.md R311). -/
def resetEvents (p : Params) : List Event :=
  [.startCapture, if p.rstRxMode = 0#32 then .radioDisable else .radioEnable]

/-- DESIGN CHOICE (log entry 4): what the payload ports carry in `State.reset`, where nothing has been issued. -/
def Ports.quiet : Ports where
  c := 0
  t := 0#32
  v := 0#32
  s := []
  k := { bits := [], longUs := 0, shortUs := 0, periodUs := 0, polarity := false }

end Sys2Proof.Machine
end

