-- ==== Sys2Proof/Machine/State.lean ====
section
/-! DEFINITION. The state of the block (10_state.md), the reasons a step can stop, and the state after reset. -/

namespace Sys2Proof.Machine

/-- Everything the spec gives the block (R24 to R50), and six fields of the model's own: the instance, the
environment's issue queue, the ports, and the two outputs of the last operation, and the draw counter. -/
structure State where
  /-- SampleCapture (R24 to R30). -/
  cap : Capture
  /-- The configuration register file (R31). -/
  cfg : CfgRegs
  /-- The WordBuilder accumulator (R37). -/
  acc : Acc
  /-- The CorrelationMatcher (R39 to R43). -/
  corr : Corr
  /-- The BurstScheduler, the frame buffer and the radio bits (R44 to R46). -/
  tx : Sched
  /-- The TxQueue (R47). -/
  queue : TxQueue
  /-- The fault bits of `STATUS` (R49). -/
  faults : FaultBits
  /-- The output log `out` (R48), oldest event first. -/
  out : List Event
  /-- Model's own (log entry 6): the result code the last operation returned (R281). No operation reads it (R283). -/
  result : Code
  /-- Model's own (log entry 6): what the last operation drove on the output port `Q`; only a GET drives it (R101). -/
  q : Option U32
  /-- Model's own (log entry 4): the payload on the ports of the operation being executed (R21, R101). -/
  port : Ports
  /-- Model's own (log entry 3): the operations the environment has issued and the block has not yet executed, in
  issue order (20_memory.md R73, R74). -/
  inbox : List Issue
  /-- Model's own (log entry 1): the OPEN parameters of the instance (00_scope.md R7). No operation changes them. -/
  params : Params
  /-- Model's own (log entry 7): how many draws have been made; the next one is `Config.draw draws` (R13, R130). -/
  draws : Nat
deriving DecidableEq, Repr

/-- No operation stops the block with a machine fault: "The block has no traps and no exceptions" (60_exceptions.md
R276), and a fault bit lets the operation continue (R284). So there is no reason to name. -/
inductive Fault where
deriving DecidableEq, Repr

/-- Why a step is refused. -/
inductive Refusal where
  /-- Raised by no arm of this model: every operation has its meaning. Safe. -/
  | notModelled (mnemonic : String)
  /-- RISE, FALL and BCHK: `C` is not below `TIMER_MOD` (30_encoding.md R103, R288). Safe: the spec refuses it. -/
  | captureOutOfDomain
  /-- SUBMIT: `K` has more than `SYM_CAP` bits (R101, R103). Safe: the spec refuses it. -/
  | candidateOutOfDomain
  /-- ENQ: `S` is longer than 255 bytes (R101, R103). Safe: the spec refuses it. -/
  | stringOutOfDomain
deriving DecidableEq, Repr

/-- What an operation ends in. -/
abbrev Outcome := Host.Outcome State Fault Refusal

/-- The state after one RST of an instance with parameters `p`, out of a power-on with nothing emitted
(10_state.md R54; 70_reset_and_hazards.md R312). -/
def State.resetOf (p : Params) : State where
  cap := Capture.reset p
  cfg := CfgRegs.reset p
  acc := Acc.clear
  corr := Corr.reset
  tx := Sched.reset p
  queue := TxQueue.reset
  faults := FaultBits.reset
  out := resetEvents p
  result := 0x00#8
  q := none
  port := Ports.quiet
  inbox := []
  params := p
  draws := 0

/-- The machine right after reset: "A model's initial state is the state after one RST" (R312), for the instance
of log entry 1. -/
def State.reset : State := State.resetOf Params.vectors

end Sys2Proof.Machine
end

