-- ==== Sys2Proof/Machine/Operands.lean ====
section
/-! DEFINITION. Values the rules compute from operands: the result codes (60_exceptions.md R281), modular time,
ring arithmetic, the statistical mode (00_scope.md), and the classifier's and the encoder's mappings. -/

namespace Sys2Proof

/-- `OK` (R281, with the codes below). -/
abbrev Code.ok : Code := 0x00#8
abbrev Code.configRejected : Code := 0x01#8
abbrev Code.prepFailed : Code := 0x02#8
abbrev Code.queueFull : Code := 0x03#8
abbrev Code.txEmpty : Code := 0x04#8
abbrev Code.illegalOp : Code := 0x05#8
abbrev Code.ignored : Code := 0x06#8
abbrev Code.dropped : Code := 0x10#8
abbrev Code.stored : Code := 0x11#8
abbrev Code.confirmed : Code := 0x12#8
/-- `STALE_RESET`, a bit ORed into `STORED` or `CONFIRMED`. -/
abbrev Code.staleReset : Code := 0x80#8
abbrev Code.burstStarted : Code := 0x20#8
abbrev Code.frameTriggered : Code := 0x21#8
abbrev Code.frameDone : Code := 0x22#8
abbrev Code.burstEnded : Code := 0x23#8

/-- `OFF`, `ALWAYS_ON` and `OFF_DURING_TX` of `RX_MODE` (10_state.md R35). -/
abbrev RxMode.off : U32 := 0#32
abbrev RxMode.alwaysOn : U32 := 1#32
abbrev RxMode.offDuringTx : U32 := 2#32

namespace Machine

/-- `elapsed(a, b) = (a - b) mod 2^32` (R10): subtraction of `u32` wraps. -/
def elapsed (a b : U32) : Nat := (a - b).toNat

/-- `OVF_CAP(M) = floor(M / TIMER_MOD) + 2` (R8). -/
def ovfCap (p : Params) (m : U32) : Nat := m.toNat / p.timerMod + 2

/-- `next_n(i) = (i + 1) mod n` (20_memory.md R87). -/
def nextIdx (n i : Nat) : Nat := (i + 1) % n

/-- `dist(a, b) = (b - a) mod n` (10_state.md R28), without leaving the naturals. -/
def ringDist (n a b : Nat) : Nat := (b + (n - a % n)) % n

/-- The window: slots `a, a+1, ..., b-1` modulo `n` (R28, 41_wordbuilder.md R152). -/
def windowSlots (n a b : Nat) : List Nat := (List.range (ringDist n a b)).map fun k => (a + k) % n

/-- The better of two values as the mode of `xs`: the more frequent, and of equally frequent ones the smaller. -/
def betterMode (xs : List Nat) (best x : Nat) : Nat :=
  if xs.count best < xs.count x ∨ xs.count x = xs.count best ∧ x < best then x else best

/-- `mode0(X)` (R15): the value occurring most often, the smallest of several; 0 when `X` is empty. -/
def mode0 (xs : List Nat) : Nat := xs.foldl (betterMode xs) (xs.headD 0)

/-- `classify(w, pm)` (41_wordbuilder.md R150), called with `pm > 0`. -/
def classify (w pm : Nat) : PulseClass := if w * 100 / pm < 50 then .short else .long

/-- `sym(cls, inv)` (R151): 1 exactly when `(cls = LONG) != (inv = 1)`. -/
def symbolOf (cls : PulseClass) (inv : U32) : Bool := decide (cls = .long) != decide (inv = 1#32)

/-- The period recorded for a sample (R156): a raw period above `TIMEOUT_US` is replaced by the window's mode. -/
def recordedPeriod (timeoutUs : U32) (pm p : Nat) : Nat := if timeoutUs.toNat < p then pm else p

/-- The gap test (R157): `p > pm * 13/10`, in exact integers. -/
def isGap (pm p : Nat) : Bool := pm * Config.gapNum < p * Config.gapDen

/-- `length_ok(n)` (42_matcher.md R180): the upper bound is one more when a synchronization symbol is present. -/
def lengthOk (cfg : CfgRegs) (n : Nat) : Bool :=
  cfg.minWordLen.toNat ≤ n && n ≤ cfg.maxWordLen.toNat + (if cfg.ignoreSync = 0#32 then 1 else 0)

/-- `same(a, b)` (42_matcher.md, opening; R186): equal bits, and so equal lengths; timings and polarity ignored. -/
def same (a b : Candidate) : Bool := a.bits == b.bits

/-- The duty value of one transmit symbol (43_scheduler.md R200): `'1'` is 0x31 and `'0'` is 0x30 (R16); any other
byte fails. -/
def dutyOf (cfg : CfgRegs) (b : Byte) : Option U32 :=
  if b = 0x31#8 then some (if cfg.invertLogic = 0#32 then cfg.txLong else cfg.txShort)
  else if b = 0x30#8 then some (if cfg.invertLogic = 0#32 then cfg.txShort else cfg.txLong)
  else none

/-- The duty values of a symbol string, or failure at the first bad symbol (R200). -/
def dutiesOf (cfg : CfgRegs) : List Byte → Option (List U32)
  | [] => some []
  | b :: bs =>
    match dutyOf cfg b, dutiesOf cfg bs with
    | some d, some ds => some (d :: ds)
    | _, _ => none

/-- `prepare(s)` (R200): the duty values and the terminating zero. -/
def prepare (cfg : CfgRegs) (s : List Byte) : Option (List U32) :=
  (dutiesOf cfg s).map fun ds => ds ++ [0#32]

/-- A duty sequence in the frame buffer, every unused entry 0 (R201). -/
def dutyBuffer (ds : List U32) : Vector U32 Config.dutyCap :=
  ⟨((ds ++ List.replicate Config.dutyCap 0#32).take Config.dutyCap).toArray, by simp⟩

end Machine

end Sys2Proof
end

