-- ==== Sys2Proof/Machine/Ops.lean ====
section
/-! DEFINITION. The named operations over the state (00_scope.md R13): what the rules' pseudocode calls. The block
has no exception entry (60_exceptions.md R276); its one fault mechanism is `State.raise` (R284). -/

namespace Sys2Proof.Machine

/-- `emit(E)` (R13): append to the output log (10_state.md R48). -/
def State.emit (s : State) (e : Event) : State := { s with out := s.out ++ [e] }

/-- `result(c)` (R13): end the operation with a result code, `Q` not driven. -/
def State.returns (s : State) (c : Code) : State := { s with result := c, q := none }

/-- The end of a GET (45_config.md R236): `Q` carries the value, and the result code is `OK`. -/
def State.drives (s : State) (v : U32) : State := { s with result := Code.ok, q := some v }

/-- `raise Fault(f)` (R13, 60_exceptions.md R284): set the sticky bit and change nothing else. -/
def State.raise (s : State) (f : FaultBit) : State :=
  match f with
  | .ovr => { s with faults := { s.faults with ovr := true } }
  | .div0 => { s with faults := { s.faults with div0 := true } }
  | .wovf => { s with faults := { s.faults with wovf := true } }

/-- `MemRead` of the sample ring (20_memory.md R71); the rules never form an index outside it (R82). -/
def State.slot (s : State) (i : Nat) : Sample := s.cap.ring.getD i Sample.clean

/-- `MemWrite` of the sample ring (R71). -/
def State.setSlot (s : State) (i : Nat) (x : Sample) : State :=
  { s with cap := { s.cap with ring := s.cap.ring.set i x } }

/-- `st.per[st.stor_idx] <- p`. -/
def State.storePeriod (s : State) (p : Nat) : State :=
  s.setSlot s.cap.storIdx { s.slot s.cap.storIdx with period := p }

/-- `st.wid[st.stor_idx] <- w; st.wv[st.stor_idx] <- true`. -/
def State.storeWidth (s : State) (w : Nat) : State :=
  s.setSlot s.cap.storIdx { s.slot s.cap.storIdx with width := w, valid := true }

/-- `ext(c, ref)` (R130): the exact count, or, where it would be negative, the next draw. -/
def State.ext (s : State) (c ref : Nat) : Nat :=
  if ref ≤ s.cap.ovf * s.params.timerMod + c then s.cap.ovf * s.params.timerMod + c - ref
  else Config.draw s.draws

/-- The draw counter after `ext(c, ref)`: advanced when `ext` drew. -/
def State.afterExt (s : State) (c ref : Nat) : State :=
  if ref ≤ s.cap.ovf * s.params.timerMod + c then s else { s with draws := s.draws + 1 }

/-- `advance_stor()` (R134): move the store cursor, but never onto the consumer's. -/
def State.advanceStor (s : State) : State :=
  if nextIdx s.params.sampleCap s.cap.storIdx = s.cap.procIdx then s.raise .ovr
  else { s with cap := { s.cap with storIdx := nextIdx s.params.sampleCap s.cap.storIdx } }

/-- `if st.wv[st.stor_idx]: advance_stor()`, the last act of a RISE and of a firing BCHK (R131, R139). -/
def State.advanceIfWidth (s : State) : State :=
  if (s.slot s.cap.storIdx).valid then s.advanceStor else s

/-- `clear_window(W)` (41_wordbuilder.md R161): clear the window's slots and move the consumer to the snapshot. -/
def State.clearWindow (s : State) (w : List Nat) : State :=
  { s with cap := { s.cap with
      ring := w.foldl (fun r i => r.set i Sample.clean) s.cap.ring
      procIdx := s.cap.tgtIdx } }

/-- Append one symbol and its position record to the accumulator (R154). -/
def State.appendSymbol (s : State) (b : Bool) (r : PosRec) : State :=
  { s with acc := { s.acc with
      bits := s.acc.bits.setIfInBounds s.acc.len b
      recs := s.acc.recs.setIfInBounds s.acc.len r
      len := s.acc.len + 1 } }

/-- `st.acc.nsamp <- st.acc.nsamp + 1` (R154). -/
def State.countSample (s : State) : State := { s with acc := { s.acc with nsamp := s.acc.nsamp + 1 } }

/-- `disable()` of the radio, mirrored in `radio_on` (10_state.md R46). -/
def State.radioDisable (s : State) : State :=
  { s.emit .radioDisable with tx := { s.tx with radioOn := false } }

/-- `enable()` of the radio, mirrored in `radio_on` (R46). -/
def State.radioEnable (s : State) : State :=
  { s.emit .radioEnable with tx := { s.tx with radioOn := true } }

/-- `st.rx_excl <- b`. -/
def State.setRxExcl (s : State) (b : Bool) : State := { s with tx := { s.tx with rxExcl := b } }

/-- `consume_head()` (44_txqueue.md R227): shift every slot down and empty the last. -/
def State.consumeHead (s : State) : State :=
  if s.queue.count = 0 then s
  else { s with queue := {
      slots := #v[s.queue.slots[1], s.queue.slots[2], s.queue.slots[3], s.queue.slots[4], none]
      count := s.queue.count - 1 } }

/-- Emit the pulse train of the prepared frame and mark it in flight (43_scheduler.md R206, R207). -/
def State.triggerFrame (s : State) : State :=
  { s.emit (.pulseTrain (s.tx.frm.duty.toList.take s.tx.frm.len) s.tx.frm.len) with
    tx := { s.tx with fstate := .inFlight } }

/-- The operation the environment has issued next, its payload put on the ports (20_memory.md R73; 30_encoding.md
R101). `none` when nothing is issued. -/
def State.fetch (s : State) : Option (OpWord × State) :=
  match s.inbox with
  | [] => none
  | x :: rest => some (x.word, { s with port := x.ports, inbox := rest })

/-- The environment issues `w` before everything it has issued, with the payload now on the ports. -/
def State.presentWord (s : State) (w : OpWord) : State :=
  { s with inbox := { word := w, ports := s.port } :: s.inbox }

/-- The illegal operation (30_encoding.md R112): no state change, no event, `ILLEGAL_OP`; it reads no port
(60_exceptions.md R282). -/
def execIllegal (s : State) : Outcome := .next (s.returns Code.illegalOp)

end Sys2Proof.Machine
end

