-- ==== Sys2Proof/Machine/Flags.lean ====
section
/-! DEFINITION. The `STATUS` register (10_state.md R49) and the read-only registers (R50). The block has no
arithmetic condition codes (R52); its flags are the `STATUS` bits. -/

namespace Sys2Proof.Machine

/-- A flag at its bit position of a `u32`. -/
def flagAt (b : Bool) (i : Nat) : U32 := if b then 1#32 <<< i else 0#32

/-- `FRAME_IN_FLIGHT`: `bstate = BURST_ACTIVE` and `fstate = FRAME_IN_FLIGHT` (R49). -/
def State.frameInFlight (s : State) : Bool := decide (s.tx.bstate = .active ∧ s.tx.fstate = .inFlight)

/-- `STATUS` (R49): bits 0 to 5 are views of the transmit side's state, bits 8 to 10 the fault bits, and the
reserved bits read as 0. -/
def State.status (s : State) : U32 :=
  flagAt s.tx.txActive 0 ||| flagAt s.tx.frm.burstComplete 1 ||| flagAt s.frameInFlight 2
    ||| flagAt s.tx.frm.frameComplete 3 ||| flagAt s.tx.rxExcl 4 ||| flagAt s.tx.radioOn 5
    ||| flagAt s.faults.ovr 8 ||| flagAt s.faults.div0 9 ||| flagAt s.faults.wovf 10

/-- The value of a read-only register, `zext_32` of the field it names (R49, R50; DEDUCED for the naturals, log
entry 10). -/
def State.view (s : State) : ViewReg → U32
  | .status => s.status
  | .qcount => BitVec.ofNat 32 s.queue.count
  | .storIdx => BitVec.ofNat 32 s.cap.storIdx
  | .procIdx => BitVec.ofNat 32 s.cap.procIdx
  | .tgtIdx => BitVec.ofNat 32 s.cap.tgtIdx
  | .corrWidx => BitVec.ofNat 32 s.corr.widx.val
  | .framesSent => s.tx.frm.framesSent
  | .ovfCount => BitVec.ofNat 32 s.cap.ovf

/-- No fault bit is set (60_exceptions.md R284). -/
def State.noFault (s : State) : Bool := !s.faults.ovr && !s.faults.div0 && !s.faults.wovf

end Sys2Proof.Machine
end

