-- ==== Sys2Proof/Machine/Capture.lean ====
section
/-! DEFINITION. The SampleCapture operations (40_capture.md). None of them reads the radio state or the scheduler
(R142). -/

namespace Sys2Proof.Machine

/-- RISE: rising edge captured (R131). -/
def execRise (s : State) : Outcome :=
  let c := s.port.c
  if c < s.params.timerMod then
    let p := s.ext c s.cap.lastRise
    let s1 := (s.afterExt c s.cap.lastRise).storePeriod p
    let s2 := { s1 with cap := { s1.cap with ovf := 0, lastRise := c } }
    .next (s2.advanceIfWidth.returns Code.ok)
  else .refused .captureOutOfDomain

/-- FALL: falling edge captured (R135, R136). -/
def execFall (s : State) : Outcome :=
  let c := s.port.c
  if c < s.params.timerMod then
    let w := s.ext c s.cap.lastRise
    .next (((s.afterExt c s.cap.lastRise).storeWidth w).returns Code.ok)
  else .refused .captureOutOfDomain

/-- OVF: capture-counter overflow, saturating at the cap of the current `MAX_BIT_PERIOD` (R137, R138). -/
def execOvf (s : State) : Outcome :=
  let s1 :=
    if s.cap.ovf < ovfCap s.params s.cfg.maxBitPeriod then { s with cap := { s.cap with ovf := s.cap.ovf + 1 } }
    else s
  .next (s1.returns Code.ok)

/-- BCHK: word-boundary detection (R139). -/
def execBchk (s : State) : Outcome :=
  let c := s.port.c
  if c < s.params.timerMod then
    let e := s.ext c s.cap.lastRise
    let s1 := s.afterExt c s.cap.lastRise
    if s.cfg.maxBitPeriod.toNat < e ∧ s.cap.storIdx ≠ s.cap.procIdx then
      let s2 := (s1.storePeriod e).advanceIfWidth
      .next ({ s2 with cap := { s2.cap with tgtIdx := s2.cap.storIdx } }.returns Code.ok)
    else .next (s1.returns Code.ok)
  else .refused .captureOutOfDomain

end Sys2Proof.Machine
end

