-- ==== Sys2Proof/Machine/Queue.lean ====
section
/-! DEFINITION. The TxQueue operation (44_txqueue.md). -/

namespace Sys2Proof.Machine

/-- `st.q[st.qcount] <- S; st.qcount <- st.qcount + 1` (R226). -/
def State.enqueue (s : State) (str : List Byte) : State :=
  { s with queue := {
      slots := s.queue.slots.setIfInBounds s.queue.count (some str)
      count := s.queue.count + 1 } }

/-- ENQ: enqueue an outgoing word (R226): the length, then the room (R229, R230). -/
def execEnq (s : State) : Outcome :=
  let str := s.port.s
  if str.length ≤ Config.stringCap then
    if str.length = 0 ∨ Config.symCap < str.length then .next (s.returns Code.configRejected)
    else if s.queue.count = Config.qCap then .next (s.returns Code.queueFull)
    else .next ((s.enqueue str).returns Code.ok)
  else .refused .stringOutOfDomain

end Sys2Proof.Machine
end

