-- ==== Sys2Proof/Machine/Registers.lean ====
section
/-! DEFINITION. The configuration commands SET and GET (45_config.md), one meaning for each register. -/

namespace Sys2Proof.Machine

/-- `effect(RX_MODE)` (R253): apply the receive mode now in the register, at once. The event is emitted even when
the radio is already as required. -/
def State.applyRxMode (s : State) : State :=
  if s.cfg.rxMode = RxMode.off then s.radioDisable.setRxExcl false
  else if s.cfg.rxMode = RxMode.alwaysOn then s.radioEnable.setRxExcl false
  else if s.tx.txActive then s.radioDisable.setRxExcl true
  else s.radioEnable.setRxExcl false

/-- A SET's value is accepted: the register's own condition, then the extra bounds (R237, 60_exceptions.md R282). -/
def State.accepts (s : State) (r : CfgReg) (v : U32) : Bool := s.cfg.legal r v && s.params.allows r v

/-- `cfg[SEL] <- V` (R237). -/
def State.setCfg (s : State) (r : CfgReg) (v : U32) : State := { s with cfg := s.cfg.set r v }

/-- The common pattern of a SET with no effect beyond its register (R237). -/
def setPlain (r : CfgReg) (s : State) : Outcome :=
  if s.accepts r s.port.v then .next ((s.setCfg r s.port.v).returns Code.ok)
  else .next (s.returns Code.configRejected)

/-- A GET of a configuration register (R236). -/
def getCfg (r : CfgReg) (s : State) : Outcome := .next (s.drives (s.cfg.get r))

/-- A GET of a read-only register (R236). -/
def getView (r : ViewReg) (s : State) : Outcome := .next (s.drives (s.view r))

/-- SET.TIMEOUT_US (R241). -/
def execSetTimeoutUs (s : State) : Outcome := setPlain .timeoutUs s

/-- SET.MATCH_THRESH (R242). -/
def execSetMatchThresh (s : State) : Outcome := setPlain .matchThresh s

/-- SET.MIN_WORD_LEN (R243). -/
def execSetMinWordLen (s : State) : Outcome := setPlain .minWordLen s

/-- SET.MAX_WORD_LEN (R244). -/
def execSetMaxWordLen (s : State) : Outcome := setPlain .maxWordLen s

/-- SET.MAX_BIT_PERIOD (R245). -/
def execSetMaxBitPeriod (s : State) : Outcome := setPlain .maxBitPeriod s

/-- SET.TX_SHORT (R246). -/
def execSetTxShort (s : State) : Outcome := setPlain .txShort s

/-- SET.TX_LONG (R247). -/
def execSetTxLong (s : State) : Outcome := setPlain .txLong s

/-- SET.FRAME_DELAY_MS (R248). -/
def execSetFrameDelayMs (s : State) : Outcome := setPlain .frameDelayMs s

/-- SET.BURST_DELAY_MS (R249). -/
def execSetBurstDelayMs (s : State) : Outcome := setPlain .burstDelayMs s

/-- SET.REPEAT_COUNT (R250). -/
def execSetRepeatCount (s : State) : Outcome := setPlain .repeatCount s

/-- SET.INVERT_LOGIC (R251). -/
def execSetInvertLogic (s : State) : Outcome := setPlain .invertLogic s

/-- SET.IGNORE_SYNC (R252). -/
def execSetIgnoreSync (s : State) : Outcome := setPlain .ignoreSync s

/-- SET.RX_MODE (R253): the one SET with an effect of its own. -/
def execSetRxMode (s : State) : Outcome :=
  if s.accepts .rxMode s.port.v then .next ((s.setCfg .rxMode s.port.v).applyRxMode.returns Code.ok)
  else .next (s.returns Code.configRejected)

/-- GET.TIMEOUT_US (R236). -/
def execGetTimeoutUs (s : State) : Outcome := getCfg .timeoutUs s

/-- GET.MATCH_THRESH (R236). -/
def execGetMatchThresh (s : State) : Outcome := getCfg .matchThresh s

/-- GET.MIN_WORD_LEN (R236). -/
def execGetMinWordLen (s : State) : Outcome := getCfg .minWordLen s

/-- GET.MAX_WORD_LEN (R236). -/
def execGetMaxWordLen (s : State) : Outcome := getCfg .maxWordLen s

/-- GET.MAX_BIT_PERIOD (R236). -/
def execGetMaxBitPeriod (s : State) : Outcome := getCfg .maxBitPeriod s

/-- GET.TX_SHORT (R236). -/
def execGetTxShort (s : State) : Outcome := getCfg .txShort s

/-- GET.TX_LONG (R236). -/
def execGetTxLong (s : State) : Outcome := getCfg .txLong s

/-- GET.FRAME_DELAY_MS (R236). -/
def execGetFrameDelayMs (s : State) : Outcome := getCfg .frameDelayMs s

/-- GET.BURST_DELAY_MS (R236). -/
def execGetBurstDelayMs (s : State) : Outcome := getCfg .burstDelayMs s

/-- GET.REPEAT_COUNT (R236). -/
def execGetRepeatCount (s : State) : Outcome := getCfg .repeatCount s

/-- GET.INVERT_LOGIC (R236). -/
def execGetInvertLogic (s : State) : Outcome := getCfg .invertLogic s

/-- GET.IGNORE_SYNC (R236). -/
def execGetIgnoreSync (s : State) : Outcome := getCfg .ignoreSync s

/-- GET.RX_MODE (R236). -/
def execGetRxMode (s : State) : Outcome := getCfg .rxMode s

/-- GET.STATUS (R236, 10_state.md R49). -/
def execGetStatus (s : State) : Outcome := getView .status s

/-- GET.QCOUNT (R236, 10_state.md R50). -/
def execGetQcount (s : State) : Outcome := getView .qcount s

/-- GET.STOR_IDX (R236, 10_state.md R50). -/
def execGetStorIdx (s : State) : Outcome := getView .storIdx s

/-- GET.PROC_IDX (R236, 10_state.md R50). -/
def execGetProcIdx (s : State) : Outcome := getView .procIdx s

/-- GET.TGT_IDX (R236, 10_state.md R50). -/
def execGetTgtIdx (s : State) : Outcome := getView .tgtIdx s

/-- GET.CORR_WIDX (R236, 10_state.md R50). -/
def execGetCorrWidx (s : State) : Outcome := getView .corrWidx s

/-- GET.FRAMES_SENT (R236, 10_state.md R50). -/
def execGetFramesSent (s : State) : Outcome := getView .framesSent s

/-- GET.OVF_COUNT (R236, 10_state.md R50). -/
def execGetOvfCount (s : State) : Outcome := getView .ovfCount s

end Sys2Proof.Machine
end

