-- ==== Sys2Proof/Machine/Reset.lean ====
section
/-! DEFINITION. The reset operation (70_reset_and_hazards.md R311). -/

namespace Sys2Proof.Machine

/-- Every state field, every configuration register and the fault bits at their reset values (R311,
10_state.md R54). The output log is not cleared (R48), and the model's own fields stand. -/
def State.resetFields (s : State) : State :=
  { s with
    cap := Capture.reset s.params
    cfg := CfgRegs.reset s.params
    acc := Acc.clear
    corr := Corr.reset
    tx := Sched.reset s.params
    queue := TxQueue.reset
    faults := FaultBits.reset }

/-- RST: reset the block (R311), then start capture and set the radio per `RX_MODE`. -/
def execRst (s : State) : Outcome :=
  let s1 := s.resetFields.emit .startCapture
  let s2 := if s1.cfg.rxMode = RxMode.off then s1.radioDisable else s1.radioEnable
  .next (s2.returns Code.ok)

end Sys2Proof.Machine
end

