-- ==== Sys2Proof/Machine/Scheduler.lean ====
section
/-! DEFINITION. The BurstScheduler (43_scheduler.md). -/

namespace Sys2Proof.Machine

/-- The frame buffer at burst start (R201, R205). -/
def startFrame (p : Params) (f : Frame) (ds : List U32) : Frame :=
  { f with
    duty := dutyBuffer ds
    len := ds.length
    framesSent := p.framesSentInit
    frameComplete := false
    burstComplete := false }

/-- Enter the burst (R205): load the frame, set the transmit-active indicator, and in mode `OFF_DURING_TX` shut
the receive radio out. -/
def State.startBurst (s : State) (ds : List U32) : State :=
  let s1 := { s with tx := { s.tx with
    frm := startFrame s.params s.tx.frm ds, bstate := .active, fstate := .idle, txActive := true } }
  if s.cfg.rxMode = RxMode.offDuringTx then s1.radioDisable.setRxExcl true else s1

/-- SCHED in `BURST_IDLE` (R202 to R205): the gate, the queue, then the preparation. -/
def schedIdle (s : State) : State :=
  if elapsed s.port.t s.tx.frm.lastFrameMs < s.cfg.burstDelayMs.toNat then s.returns Code.ok
  else if s.queue.count = 0 then s.returns Code.txEmpty
  else
    match prepare s.cfg ((s.queue.slots[0]).getD []) with
    | none => s.consumeHead.returns Code.prepFailed
    | some ds => (s.consumeHead.startBurst ds).returns Code.burstStarted

/-- SCHED in `BURST_ACTIVE` (R206 to R208): wait in flight, trigger the first frame, or retrigger after the frame
delay. -/
def schedActive (s : State) : State :=
  if s.tx.fstate = .inFlight then s.returns Code.ok
  else if s.tx.frm.frameComplete = false then s.triggerFrame.returns Code.frameTriggered
  else if s.cfg.frameDelayMs.toNat ≤ elapsed s.port.t s.tx.frm.lastFrameMs then
    { s with tx := { s.tx with frm := { s.tx.frm with
        framesSent := s.tx.frm.framesSent + 1#32, frameComplete := false } } }.triggerFrame.returns
      Code.frameTriggered
  else s.returns Code.ok

/-- SCHED: one scheduler step, at most one transition (R201, R209). -/
def execSched (s : State) : Outcome :=
  match s.tx.bstate with
  | .idle => .next (schedIdle s)
  | .active => .next (schedActive s)

/-- The frame's completion (R215): back to `FRAME_IDLE`, the completion time recorded. -/
def State.completeFrame (s : State) : State :=
  { s with tx := { s.tx with
      fstate := .idle
      frm := { s.tx.frm with frameComplete := true, lastFrameMs := s.port.t } } }

/-- The burst's end (R215): back to `BURST_IDLE`, and the radio re-enabled if it was shut out. -/
def State.endBurst (s : State) : State :=
  let s1 := { s with tx := { s.tx with
    bstate := .idle, txActive := false, frm := { s.tx.frm with burstComplete := true } } }
  if s1.tx.rxExcl then s1.radioEnable.setRxExcl false else s1

/-- TXDONE: the pulse-train-finished callback (R215, R219). -/
def execTxdone (s : State) : Outcome :=
  if s.frameInFlight then
    let s1 := s.completeFrame
    if s.cfg.repeatCount.toNat < s.tx.frm.framesSent.toNat then .next (s1.endBurst.returns Code.burstEnded)
    else .next (s1.returns Code.frameDone)
  else .next (s.returns Code.ignored)

end Sys2Proof.Machine
end

