-- ==== Sys2Proof/Machine/Matcher.lean ====
section
/-! DEFINITION. The CorrelationMatcher (42_matcher.md). -/

namespace Sys2Proof.Machine

/-- The stale test (R182): milliseconds elapsed since the last insertion, against a timeout in microseconds. -/
def State.isStale (s : State) (t : U32) : Bool := s.cfg.timeoutUs.toNat ≤ elapsed t s.corr.lastInsertMs * 1000

/-- The stale-history clear (R182): every slot `EMPTY`, `lc` `NONE`, `widx` 0. -/
def Corr.cleared (c : Corr) : Corr :=
  { c with slots := Vector.replicate Config.nCorr none, lc := none, widx := 0 }

/-- Reference invalidation (R184): `lc` is forgotten when its slot is about to be written. -/
def Corr.invalidate (c : Corr) : Corr := if c.lc = some c.widx then { c with lc := none } else c

/-- Insertion at the write index, which then advances modulo 12 (R183). -/
def Corr.insert (c : Corr) (k : Candidate) (t : U32) : Corr :=
  { c with slots := c.slots.set c.widx.val (some k) c.widx.isLt, widx := c.widx + 1, lastInsertMs := t }

/-- The slots in the order the scan visits them (R186). -/
def slotOrder : List (Fin Config.nCorr) := [0, 1, 2, 3, 4, 5, 6, 7, 8, 9, 10, 11]

/-- `(widx - s) mod 12`, how far slot `s` is behind the write index (R185). -/
def Corr.behind (c : Corr) (s : Fin Config.nCorr) : Nat := (c.widx - s).val

/-- `cnt` (R186): the occupied slots, all twelve considered, whose content is the same as `a`. -/
def Corr.votes (c : Corr) (a : Candidate) : Nat := c.slots.toList.countP fun o => o.any fun b => same b a

/-- The last confirmed slot holds the same content as `a` (R185). -/
def Corr.announced (c : Corr) (a : Candidate) : Bool := c.lc.any fun l => (c.slots[l.val]).any fun b => same a b

/-- Slot `s`, holding `a`, starts a vote and wins it (R185, R186). -/
def Corr.wins (c : Corr) (thresh : Nat) (s : Fin Config.nCorr) (a : Candidate) : Bool :=
  thresh ≤ c.behind s && !c.announced a && thresh ≤ c.votes a

/-- The scan (R186): the first slot in slot order that wins its vote, with its content. -/
def Corr.scan (c : Corr) (thresh : Nat) : Option (Fin Config.nCorr × Candidate) :=
  slotOrder.findSome? fun s =>
    match c.slots[s.val] with
    | some a => if c.wins thresh s a then some (s, a) else none
    | none => none

/-- The `Confirm` event of a slot's content (R187). -/
def confirmOf (a : Candidate) : Event := .confirm a.bits a.length a.longUs a.shortUs a.periodUs a.polarity

/-- The ring after a candidate that passed the filter is inserted: R182, R184 and R183 in their order. -/
def State.inserted (s : State) (k : Candidate) (t : U32) : Corr :=
  ((if s.isStale t then s.corr.cleared else s.corr).invalidate).insert k t

/-- `submit_core(K, T)` (R181): the state it leaves, and its result code. -/
def submitCore (k : Candidate) (t : U32) (s : State) : State × Code :=
  if lengthOk s.cfg k.length then
    let c := s.inserted k t
    let stale : Code := if s.isStale t then Code.staleReset else 0#8
    match c.scan s.cfg.matchThresh.toNat with
    | some (f, a) =>
      if c.lc = some f then ({ s with corr := c }, Code.stored ||| stale)
      else ({ s with corr := { c with lc := some f } }.emit (confirmOf a), Code.confirmed ||| stale)
    | none => ({ s with corr := c }, Code.stored ||| stale)
  else (s, Code.dropped)

/-- SUBMIT: present one word candidate to the matcher (R181). -/
def execSubmit (s : State) : Outcome :=
  if s.port.k.length ≤ Config.symCap then
    let r := submitCore s.port.k s.port.t s
    .next (r.1.returns r.2)
  else .refused .candidateOutOfDomain

end Sys2Proof.Machine
end

