-- ==== Sys2Proof/Machine/WordBuilder.lean ====
section
/-! DEFINITION. The WordBuilder (41_wordbuilder.md). -/

namespace Sys2Proof.Machine

/-- The widths of the positions of one class, in position order (R159). -/
def classWidths (cls : PulseClass) (rs : List PosRec) : List Nat :=
  (rs.filter fun r => decide (r.cls = cls)).map PosRec.width

/-- The candidate of the accumulated word (R159). -/
def State.candidate (s : State) : Candidate :=
  let rs := s.acc.recs.toList.take s.acc.len
  { bits := s.acc.bits.toList.take s.acc.len
    longUs := mode0 (classWidths .long rs)
    shortUs := mode0 (classWidths .short rs)
    periodUs := mode0 (rs.map PosRec.period)
    polarity := decide (s.cfg.invertLogic = 1#32) }

/-- `finalize(T)` (R159): submit the candidate, its result code discarded, and clear the accumulator. -/
def finalize (t : U32) (s : State) : State := { (submitCore s.candidate t s).1 with acc := Acc.clear }

/-- The sample is the synchronization sample of its word (R155). -/
def State.isSyncSample (s : State) : Bool := s.acc.nsamp == 0 && decide (s.cfg.ignoreSync = 1#32)

/-- The symbol part of the per-sample step (R154): skip a synchronization sample, drop a symbol that does not fit
(R160), or append the symbol and its record. -/
def takeSymbol (pm : Nat) (s : State) (x : Sample) : State :=
  let cls := classify x.width pm
  if s.isSyncSample then s
  else if s.acc.len = Config.symCap then s.raise .wovf
  else s.appendSymbol (symbolOf cls s.cfg.invertLogic)
    { cls := cls, width := x.width, period := recordedPeriod s.cfg.timeoutUs pm x.period }

/-- `process_sample(p, w, pm, T)` (R154): take the symbol, count the sample, and finalize at a gap (R157, R158). -/
def processSample (pm : Nat) (t : U32) (s : State) (x : Sample) : State :=
  let s1 := (takeSymbol pm s x).countSample
  if isGap pm x.period ∧ 0 < s1.acc.len then finalize t s1 else s1

/-- The window of the next BUILD, as slot numbers (R152). -/
def State.window (s : State) : List Nat := windowSlots s.params.sampleCap s.cap.procIdx s.cap.tgtIdx

/-- BUILD: consume one window and assemble words (R152). -/
def execBuild (s : State) : Outcome :=
  if s.cap.procIdx = s.cap.tgtIdx then .next (s.returns Code.ok)
  else
    let samples := s.window.map s.slot
    let pm := mode0 (samples.map Sample.period)
    let s1 := if pm = 0 then s.raise .div0 else samples.foldl (processSample pm s.port.t) s
    .next ((s1.clearWindow s.window).returns Code.ok)

end Sys2Proof.Machine
end

