-- ==== Sys2Proof/Machine/Dispatch.lean ====
section
/-! DEFINITION. One arm for each operation of spec/opcode_table.json. -/

namespace Sys2Proof.Machine

def exec (i : Instr) (s : State) : Host.Outcome State Fault Refusal :=
  match i with
  | .rise => Sys2Proof.Machine.execRise s
  | .fall => Sys2Proof.Machine.execFall s
  | .ovf => Sys2Proof.Machine.execOvf s
  | .txdone => Sys2Proof.Machine.execTxdone s
  | .bchk => Sys2Proof.Machine.execBchk s
  | .build => Sys2Proof.Machine.execBuild s
  | .submit => Sys2Proof.Machine.execSubmit s
  | .sched => Sys2Proof.Machine.execSched s
  | .enq => Sys2Proof.Machine.execEnq s
  | .rst => Sys2Proof.Machine.execRst s
  | .setTimeoutUs => Sys2Proof.Machine.execSetTimeoutUs s
  | .setMatchThresh => Sys2Proof.Machine.execSetMatchThresh s
  | .setMinWordLen => Sys2Proof.Machine.execSetMinWordLen s
  | .setMaxWordLen => Sys2Proof.Machine.execSetMaxWordLen s
  | .setMaxBitPeriod => Sys2Proof.Machine.execSetMaxBitPeriod s
  | .setTxShort => Sys2Proof.Machine.execSetTxShort s
  | .setTxLong => Sys2Proof.Machine.execSetTxLong s
  | .setFrameDelayMs => Sys2Proof.Machine.execSetFrameDelayMs s
  | .setBurstDelayMs => Sys2Proof.Machine.execSetBurstDelayMs s
  | .setRepeatCount => Sys2Proof.Machine.execSetRepeatCount s
  | .setInvertLogic => Sys2Proof.Machine.execSetInvertLogic s
  | .setIgnoreSync => Sys2Proof.Machine.execSetIgnoreSync s
  | .setRxMode => Sys2Proof.Machine.execSetRxMode s
  | .getTimeoutUs => Sys2Proof.Machine.execGetTimeoutUs s
  | .getMatchThresh => Sys2Proof.Machine.execGetMatchThresh s
  | .getMinWordLen => Sys2Proof.Machine.execGetMinWordLen s
  | .getMaxWordLen => Sys2Proof.Machine.execGetMaxWordLen s
  | .getMaxBitPeriod => Sys2Proof.Machine.execGetMaxBitPeriod s
  | .getTxShort => Sys2Proof.Machine.execGetTxShort s
  | .getTxLong => Sys2Proof.Machine.execGetTxLong s
  | .getFrameDelayMs => Sys2Proof.Machine.execGetFrameDelayMs s
  | .getBurstDelayMs => Sys2Proof.Machine.execGetBurstDelayMs s
  | .getRepeatCount => Sys2Proof.Machine.execGetRepeatCount s
  | .getInvertLogic => Sys2Proof.Machine.execGetInvertLogic s
  | .getIgnoreSync => Sys2Proof.Machine.execGetIgnoreSync s
  | .getRxMode => Sys2Proof.Machine.execGetRxMode s
  | .getStatus => Sys2Proof.Machine.execGetStatus s
  | .getQcount => Sys2Proof.Machine.execGetQcount s
  | .getStorIdx => Sys2Proof.Machine.execGetStorIdx s
  | .getProcIdx => Sys2Proof.Machine.execGetProcIdx s
  | .getTgtIdx => Sys2Proof.Machine.execGetTgtIdx s
  | .getCorrWidx => Sys2Proof.Machine.execGetCorrWidx s
  | .getFramesSent => Sys2Proof.Machine.execGetFramesSent s
  | .getOvfCount => Sys2Proof.Machine.execGetOvfCount s

end Sys2Proof.Machine
end

