-- ==== Sys2Proof/Machine/Step.lean ====
section
/-! DEFINITION. One step of the block: the next operation of the issue order (20_memory.md R73), decoded and executed
whole (00_scope.md R14). -/

namespace Sys2Proof.Machine

/-- Execute the next issued operation. A reserved word executes as the illegal operation (30_encoding.md R112).
With nothing issued the block does nothing: it has no program of its own (10_state.md R23; DESIGN CHOICE, log
entry 5). -/
def step (s : State) : Host.Outcome State Fault Refusal :=
  match s.fetch with
  | none => .next s
  | some (w, s1) =>
    match decode w with
    | .ok i => exec i s1
    | .error _ => execIllegal s1

/-- `s` with the operation word the next one issued, its payload what the ports now carry (log entry 3). -/
def State.withFetchWord (s : State) (nbits w : Nat) : State := s.presentWord (tableWord nbits w)

end Sys2Proof.Machine
end

