-- ==== Sys2Proof/Machine/Pseudo.lean ====
section
/-! DEFINITION. Operations as the environment issues them with their payloads, the pseudo-operations of
30_encoding.md R116, and the control-loop tick of 45_config.md R262. -/

namespace Sys2Proof.Machine

/-- An operation with nothing on its ports but what is set beside it. -/
def issue (i : Instr) (port : Ports) : Issue := { word := encode i, ports := port }

/-- An operation that reads `C`. -/
def issueC (i : Instr) (c : Nat) : Issue := issue i { Ports.quiet with c := c }

/-- An operation that reads `T`. -/
def issueT (i : Instr) (t : U32) : Issue := issue i { Ports.quiet with t := t }

/-- An operation that reads `V`. -/
def issueV (i : Instr) (v : U32) : Issue := issue i { Ports.quiet with v := v }

/-- `SUBMIT t, k`. -/
def issueK (t : U32) (k : Candidate) : Issue := issue .submit { Ports.quiet with t := t, k := k }

/-- `ENQ s`. -/
def issueS (s : List Byte) : Issue := issue .enq { Ports.quiet with s := s }

/-- `TICK c, t`: `BCHK c; BUILD t; SCHED t`, one control-loop tick (R116, R262). -/
def tick (c : Nat) (t : U32) : List Issue := [issueC .bchk c, issueT .build t, issueT .sched t]

/-- `PULSE r, f`: `RISE r; FALL f`, one received pulse (R116). -/
def pulse (r f : Nat) : List Issue := [issueC .rise r, issueC .fall f]

/-- The SET operation of a configuration register (R108). -/
def setInstr : CfgReg → Instr
  | .timeoutUs => .setTimeoutUs
  | .matchThresh => .setMatchThresh
  | .minWordLen => .setMinWordLen
  | .maxWordLen => .setMaxWordLen
  | .maxBitPeriod => .setMaxBitPeriod
  | .txShort => .setTxShort
  | .txLong => .setTxLong
  | .frameDelayMs => .setFrameDelayMs
  | .burstDelayMs => .setBurstDelayMs
  | .repeatCount => .setRepeatCount
  | .invertLogic => .setInvertLogic
  | .ignoreSync => .setIgnoreSync
  | .rxMode => .setRxMode

/-- The GET operation of a configuration register (R109). -/
def getInstr : CfgReg → Instr
  | .timeoutUs => .getTimeoutUs
  | .matchThresh => .getMatchThresh
  | .minWordLen => .getMinWordLen
  | .maxWordLen => .getMaxWordLen
  | .maxBitPeriod => .getMaxBitPeriod
  | .txShort => .getTxShort
  | .txLong => .getTxLong
  | .frameDelayMs => .getFrameDelayMs
  | .burstDelayMs => .getBurstDelayMs
  | .repeatCount => .getRepeatCount
  | .invertLogic => .getInvertLogic
  | .ignoreSync => .getIgnoreSync
  | .rxMode => .getRxMode

/-- The GET operation of a read-only register (R109). -/
def viewInstr : ViewReg → Instr
  | .status => .getStatus
  | .qcount => .getQcount
  | .storIdx => .getStorIdx
  | .procIdx => .getProcIdx
  | .tgtIdx => .getTgtIdx
  | .corrWidx => .getCorrWidx
  | .framesSent => .getFramesSent
  | .ovfCount => .getOvfCount

/-- `SETCFG`: the listed SETs in the order written (R116). -/
def setcfg (rows : List (CfgReg × U32)) : List Issue := rows.map fun r => issueV (setInstr r.1) r.2

end Sys2Proof.Machine
end

