-- ==== Sys2Proof/Safety.lean ====
section
/-! DEFINITION. What counts as a safe run (70_reset_and_hazards.md R330), the invariant that every step keeps, and the
states a run can reach. -/

namespace Sys2Proof.Machine

/-- The end of a run is acceptable (R330): no fault bit is set and no frame is in flight. That no operation was
refused is the outcome of the steps, not a property of the state. -/
def State.acceptableEnd (s : State) : Bool := s.noFault && !s.frameInFlight

/-- The sample ring (10_state.md R24 to R30; 40_capture.md R133). -/
structure Capture.Wf (p : Params) (c : Capture) : Prop where
  ring_size : c.ring.length = p.sampleCap
  stor_in_ring : c.storIdx < p.sampleCap
  proc_in_ring : c.procIdx < p.sampleCap
  tgt_in_ring : c.tgtIdx < p.sampleCap
  rise_in_timer : c.lastRise < p.timerMod
  /-- `ovf` never passes the cap of the largest `MAX_BIT_PERIOD` (R8, R29, R138). -/
  ovf_capped : c.ovf ≤ (2 ^ 32 - 1) / p.timerMod + 2
  /-- The window lies within what has been stored (R28). -/
  window_stored : ringDist p.sampleCap c.procIdx c.tgtIdx ≤ ringDist p.sampleCap c.procIdx c.storIdx
  /-- Slots `proc_idx` to `stor_idx - 1` hold complete samples (R133). -/
  stored_complete : ∀ k < ringDist p.sampleCap c.procIdx c.storIdx,
    (c.ring.getD ((c.procIdx + k) % p.sampleCap) Sample.clean).valid = true
  /-- Slots outside the region from `proc_idx` to `stor_idx` are clean (R133). -/
  rest_clean : ∀ k < p.sampleCap, ringDist p.sampleCap c.procIdx c.storIdx < k →
    c.ring.getD ((c.procIdx + k) % p.sampleCap) Sample.clean = Sample.clean

/-- The accumulator (R37): every position from `len` on is clear. -/
structure Acc.Wf (a : Acc) : Prop where
  len_le : a.len ≤ Config.symCap
  len_le_nsamp : a.len ≤ a.nsamp
  rest_clear : ∀ j : Fin Config.symCap, a.len ≤ j.val → a.bits[j.val] = false ∧ a.recs[j.val] = PosRec.clear

/-- The matcher (R39 to R42): `lc` names an occupied slot, and no candidate passes `SYM_CAP`. -/
structure Corr.Wf (c : Corr) : Prop where
  lc_occupied : ∀ l, c.lc = some l → (c.slots[l.val]).isSome = true
  candidates_fit : ∀ j : Fin Config.nCorr, ∀ k, c.slots[j.val] = some k → k.length ≤ Config.symCap

/-- The scheduler and the radio bits (R44 to R46; 43_scheduler.md). -/
structure Sched.Wf (x : Sched) : Prop where
  burstComplete_iff_idle : x.frm.burstComplete = true ↔ x.bstate = .idle
  txActive_iff_active : x.txActive = true ↔ x.bstate = .active
  inFlight_active : x.fstate = .inFlight → x.bstate = .active ∧ x.frm.frameComplete = false
  rxExcl_off : x.rxExcl = true → x.bstate = .active ∧ x.radioOn = false
  len_le : x.frm.len ≤ Config.dutyCap
  /-- A prepared frame has at least one pulse and its terminator. -/
  active_len : x.bstate = .active → 2 ≤ x.frm.len
  /-- The terminator and every unused entry are 0 (R200, R201). -/
  rest_zero : ∀ j : Fin Config.dutyCap, x.frm.len ≤ j.val + 1 → x.frm.duty[j.val] = 0#32

/-- The queue (R47; 44_txqueue.md R231). -/
structure TxQueue.Wf (q : TxQueue) : Prop where
  count_le : q.count ≤ Config.qCap
  occupied_iff : ∀ j : Fin Config.qCap, (q.slots[j.val]).isSome = true ↔ j.val < q.count
  strings_fit : ∀ j : Fin Config.qCap, ∀ str, q.slots[j.val] = some str →
    1 ≤ str.length ∧ str.length ≤ Config.symCap

/-- The invariant of the block, over every operation and every payload. -/
structure State.Inv (s : State) : Prop where
  params : s.params.wellFormed = true
  cfg : s.cfg.wellFormed = true
  cap : s.cap.Wf s.params
  acc : s.acc.Wf
  corr : s.corr.Wf
  tx : s.tx.Wf
  queue : s.queue.Wf

/-- The states an instance reaches from reset, whatever the environment issues and whenever (20_memory.md R73,
R74). -/
inductive Reachable (p : Params) : State → Prop where
  | reset : Reachable p (State.resetOf p)
  /-- The environment issues one more operation. -/
  | issued (s : State) (x : Issue) : Reachable p s → Reachable p { s with inbox := s.inbox ++ [x] }
  /-- The block executes the next issued operation. -/
  | stepped (s t : State) : Reachable p s → step s = .next t → Reachable p t

/-- The result codes of R281's table that each operation returns. -/
def returnable : Instr → List Code
  | .submit => [0x10#8, 0x11#8, 0x12#8, 0x91#8, 0x92#8]
  | .sched => [0x00#8, 0x02#8, 0x04#8, 0x20#8, 0x21#8]
  | .txdone => [0x06#8, 0x22#8, 0x23#8]
  | .enq => [0x00#8, 0x01#8, 0x03#8]
  | .setTimeoutUs | .setMatchThresh | .setMinWordLen | .setMaxWordLen | .setMaxBitPeriod | .setTxShort | .setTxLong
  | .setFrameDelayMs | .setBurstDelayMs | .setRepeatCount | .setInvertLogic | .setIgnoreSync | .setRxMode =>
    [0x00#8, 0x01#8]
  | .rise | .fall | .ovf | .bchk | .build | .rst
  | .getTimeoutUs | .getMatchThresh | .getMinWordLen | .getMaxWordLen | .getMaxBitPeriod | .getTxShort | .getTxLong
  | .getFrameDelayMs | .getBurstDelayMs | .getRepeatCount | .getInvertLogic | .getIgnoreSync | .getRxMode
  | .getStatus | .getQcount | .getStorIdx | .getProcIdx | .getTgtIdx | .getCorrWidx | .getFramesSent
  | .getOvfCount => [0x00#8]

/-- The queued strings, head first: the occupied slots `q[0] .. q[qcount-1]` (R47, R231). -/
def TxQueue.contents (q : TxQueue) : List (List Byte) := (q.slots.toList.take q.count).filterMap id

/-- The operation `i` executed with the payload `port`, whatever was on the ports before. -/
def execWith (i : Instr) (port : Ports) (s : State) : Outcome := exec i { s with port := port }

/-- The rest of a burst as the environment drives it: for each time `t`, the frame in flight completes at `t` and
the scheduler runs when the frame delay has just elapsed (43_scheduler.md R207, R215). -/
def frameRounds : List U32 → State → Outcome
  | [], s => .next s
  | t :: ts, s =>
    match execWith .txdone { Ports.quiet with t := t } s with
    | .next s1 =>
      match execWith .sched { Ports.quiet with t := t + s1.cfg.frameDelayMs } s1 with
      | .next s2 => frameRounds ts s2
      | o => o
    | o => o

end Sys2Proof.Machine
end

