-- ==== Sys2Proof/Certificates/Slice0/Obligations.lean ====
section
/-! DEFINITION. The statements for the provers, in the order of the spec's files: encoding, the machine as a whole,
reset, capture, word building, matching, scheduling, the queue, the configuration registers. -/

open Sys2Proof Sys2Proof.Machine

/-! ### Encoding (30_encoding.md) -/

/-- R108, R109, R110: every operation word, written out, decodes to its operation, and a SET of a read-only register
is illegal. -/
def Obligations.WordsDecodeToTheirOperations : Prop :=
  (decode 0x0100#16 = .ok .rise ∧ decode 0x0200#16 = .ok .fall ∧ decode 0x0300#16 = .ok .ovf ∧
    decode 0x0400#16 = .ok .txdone ∧ decode 0x1000#16 = .ok .bchk ∧ decode 0x1100#16 = .ok .build ∧
    decode 0x1200#16 = .ok .submit ∧ decode 0x1300#16 = .ok .sched ∧ decode 0x2000#16 = .ok .enq ∧
    decode 0xF000#16 = .ok .rst) ∧
  (decode 0x3000#16 = .ok .setTimeoutUs ∧ decode 0x3001#16 = .ok .setMatchThresh ∧
    decode 0x3002#16 = .ok .setMinWordLen ∧ decode 0x3003#16 = .ok .setMaxWordLen ∧
    decode 0x3004#16 = .ok .setMaxBitPeriod ∧ decode 0x3005#16 = .ok .setTxShort ∧
    decode 0x3006#16 = .ok .setTxLong ∧ decode 0x3007#16 = .ok .setFrameDelayMs ∧
    decode 0x3008#16 = .ok .setBurstDelayMs ∧ decode 0x3009#16 = .ok .setRepeatCount ∧
    decode 0x300A#16 = .ok .setInvertLogic ∧ decode 0x300B#16 = .ok .setIgnoreSync ∧
    decode 0x300C#16 = .ok .setRxMode) ∧
  (decode 0x3100#16 = .ok .getTimeoutUs ∧ decode 0x3101#16 = .ok .getMatchThresh ∧
    decode 0x3102#16 = .ok .getMinWordLen ∧ decode 0x3103#16 = .ok .getMaxWordLen ∧
    decode 0x3104#16 = .ok .getMaxBitPeriod ∧ decode 0x3105#16 = .ok .getTxShort ∧
    decode 0x3106#16 = .ok .getTxLong ∧ decode 0x3107#16 = .ok .getFrameDelayMs ∧
    decode 0x3108#16 = .ok .getBurstDelayMs ∧ decode 0x3109#16 = .ok .getRepeatCount ∧
    decode 0x310A#16 = .ok .getInvertLogic ∧ decode 0x310B#16 = .ok .getIgnoreSync ∧
    decode 0x310C#16 = .ok .getRxMode ∧ decode 0x3120#16 = .ok .getStatus ∧ decode 0x3121#16 = .ok .getQcount ∧
    decode 0x3122#16 = .ok .getStorIdx ∧ decode 0x3123#16 = .ok .getProcIdx ∧ decode 0x3124#16 = .ok .getTgtIdx ∧
    decode 0x3125#16 = .ok .getCorrWidx ∧ decode 0x3126#16 = .ok .getFramesSent ∧
    decode 0x3127#16 = .ok .getOvfCount) ∧
  ∀ w ∈ [0x3020#16, 0x3021#16, 0x3022#16, 0x3023#16, 0x3024#16, 0x3025#16, 0x3026#16, 0x3027#16],
    ∃ sel, decode w = .error (.setReadOnly sel)

/-- Decode and encode agree on every word and every operation: the decoder accepts exactly the words the encoder
writes, each for its own operation (R117 with R108 to R110). -/
def Obligations.DecodeAndEncodeAgree : Prop :=
  ∀ (w : OpWord) (i : Instr), decode w = .ok i ↔ w = encode i

/-- R111: the reserved words are exactly the four kinds the rule lists (bit fields written on the numbers). -/
def Obligations.ReservedWordsAreExactlyThese : Prop :=
  ∀ w : OpWord,
    (∃ r, decode w = .error r) ↔
      (w.toNat / 256 ∉ [0x01, 0x02, 0x03, 0x04, 0x10, 0x11, 0x12, 0x13, 0x20, 0x30, 0x31, 0xF0]) ∨
      (w.toNat / 256 ∈ [0x01, 0x02, 0x03, 0x04, 0x10, 0x11, 0x12, 0x13, 0x20, 0xF0] ∧ w.toNat % 256 ≠ 0) ∨
      (w.toNat / 256 = 0x30 ∧ 0x0C < w.toNat % 256) ∨
      (w.toNat / 256 = 0x31 ∧ 0x0C < w.toNat % 256 ∧ ¬(0x20 ≤ w.toNat % 256 ∧ w.toNat % 256 ≤ 0x27))

/-! ### The machine as a whole (00_scope.md, 20_memory.md, 60_exceptions.md) -/

/-- R14, R73: a step runs the next issued operation, decoded, with its payload on the ports, as one whole. -/
def Obligations.StepRunsTheDecodedOperation : Prop :=
  ∀ (s : State) (x : Issue) (rest : List Issue) (i : Instr),
    s.inbox = x :: rest → decode x.word = .ok i →
      step s = exec i { s with port := x.ports, inbox := rest }

/-- R112: a reserved word changes no state of the block, emits nothing and returns `ILLEGAL_OP`. -/
def Obligations.ReservedWordIsTheIllegalOperation : Prop :=
  ∀ (s : State) (x : Issue) (rest : List Issue) (r : Reserved),
    s.inbox = x :: rest → decode x.word = .error r →
      step s = .next { s with port := x.ports, inbox := rest, result := 0x05#8, q := none }

/-- The model's choice (log entry 5): with nothing issued, a step changes nothing. -/
def Obligations.NothingIssuedNothingDone : Prop :=
  ∀ s : State, s.inbox = [] → step s = .next s

/-- R103: an operation completes exactly when the payload it reads is in the domain of its ports, and is refused by
name otherwise; a string longer than `SYM_CAP` is in the domain of `S`, and ENQ rejects it with a result code. -/
def Obligations.OperationsCompleteOnTheirPortDomains : Prop :=
  (∀ (i : Instr) (s : State), i.wellFormed s.params s.port = true → ∃ t, exec i s = .next t) ∧
  (∀ (i : Instr) (s : State), i = .rise ∨ i = .fall ∨ i = .bchk → s.params.timerMod ≤ s.port.c →
    exec i s = .refused .captureOutOfDomain) ∧
  (∀ s : State, 65 < s.port.k.bits.length → exec .submit s = .refused .candidateOutOfDomain) ∧
  (∀ s : State, 255 < s.port.s.length → exec .enq s = .refused .stringOutOfDomain) ∧
  (∀ s : State, 65 < s.port.s.length → s.port.s.length ≤ 255 →
    exec .enq s = .next { s with result := 0x01#8, q := none })

/-- R262, R116: `TICK c, t` runs BCHK with `c`, then BUILD with `t`, then SCHED with the same `t`. -/
def Obligations.TickRunsItsThreePartsInOrder : Prop :=
  ∀ (s : State) (c : Nat) (t : U32) (rest : List Issue), s.inbox = tick c t ++ rest →
    step s = exec .bchk { s with
      port := { Ports.quiet with c := c }, inbox := issueT .build t :: issueT .sched t :: rest } ∧
    ∀ s1, step s = .next s1 →
      step s1 = exec .build { s1 with port := { Ports.quiet with t := t }, inbox := issueT .sched t :: rest } ∧
      ∀ s2, step s1 = .next s2 →
        step s2 = exec .sched { s2 with port := { Ports.quiet with t := t }, inbox := rest }

/-- R283, R73, on the model's own fields (log entries 3, 4 and 6): no operation reads the outputs of the one before it,
or what is still to be issued, and none writes the issue queue, the parameters or the ports. The second run draws
what the first draws: the statement is of the same draw (log entry 7), a choice of the model. -/
def Obligations.OutputsAndFutureAreNeverRead : Prop :=
  ∀ (i : Instr) (s : State),
    (∀ (r : Code) (q : Option U32), exec i { s with result := r, q := q } = exec i s) ∧
    (∀ (l : List Issue) (t : State), exec i s = .next t →
      t.inbox = s.inbox ∧ t.params = s.params ∧ t.port = s.port ∧
      exec i { s with inbox := l } = .next { t with inbox := l })

/-- R48: the output log is append-only, under every operation. -/
def Obligations.OutputLogOnlyGrows : Prop :=
  ∀ (i : Instr) (s t : State), exec i s = .next t → ∃ es, t.out = s.out ++ es

/-- R284 to R287: a fault bit, once set, is cleared by RST alone, and each bit is raised only by the operations its
rule names. -/
def Obligations.FaultBitsAreStickyAndNamed : Prop :=
  ∀ (i : Instr) (s t : State), exec i s = .next t →
    (i ≠ .rst →
      (s.faults.ovr = true → t.faults.ovr = true) ∧ (s.faults.div0 = true → t.faults.div0 = true) ∧
      (s.faults.wovf = true → t.faults.wovf = true)) ∧
    (i = .rst → t.faults = { ovr := false, div0 := false, wovf := false }) ∧
    (s.faults.ovr = false → t.faults.ovr = true → i = .rise ∨ i = .bchk) ∧
    (s.faults.div0 = false → t.faults.div0 = true → i = .build) ∧
    (s.faults.wovf = false → t.faults.wovf = true → i = .build)

/-- R284, for two runs of the same draw (a choice of the model, log entry 7): no operation but the read of `STATUS`
depends on a fault bit. RST answers the same state under any fault bits; every other operation raises the same bits
`d` under any fault bits `f`, to which it adds them, and answers the same state otherwise. -/
def Obligations.NoOperationTestsAFaultBit : Prop :=
  ∀ (i : Instr) (s t : State), i ≠ .getStatus → exec i s = .next t →
    (i = .rst → ∀ f : FaultBits, exec i { s with faults := f } = .next t) ∧
    (i ≠ .rst → ∃ d : FaultBits, ∀ f : FaultBits,
      exec i { s with faults := f } = .next { t with
        faults := { ovr := f.ovr || d.ovr, div0 := f.div0 || d.div0, wovf := f.wovf || d.wovf } })

/-- R281: every completed operation returns a code of its own row of the table, and no other value. -/
def Obligations.ResultCodesByOperation : Prop :=
  ∀ (i : Instr) (s t : State), exec i s = .next t → t.result ∈ returnable i

/-- R52, R78, R86: each part of the state is written only by the operations the rules name for it. -/
def Obligations.EachPartHasItsWriters : Prop :=
  ∀ (i : Instr) (s t : State), exec i s = .next t →
    (t.cap ≠ s.cap → i ∈ [.rise, .fall, .ovf, .bchk, .build, .rst]) ∧
    (t.cfg ≠ s.cfg → i = .rst ∨ ∃ r, i = setInstr r) ∧
    (t.acc ≠ s.acc → i ∈ [.build, .rst]) ∧
    (t.corr ≠ s.corr → i ∈ [.submit, .build, .rst]) ∧
    (t.tx ≠ s.tx → i ∈ [.sched, .txdone, .setRxMode, .rst]) ∧
    (t.queue ≠ s.queue → i ∈ [.enq, .sched, .rst]) ∧
    (t.faults ≠ s.faults → i ∈ [.rise, .bchk, .build, .rst])

/-- R49: every bit of `STATUS`, and `GET.STATUS` returns them. -/
def Obligations.StatusBitsAreViewsOfTheState : Prop :=
  ∀ s : State, ∃ st : U32,
    exec .getStatus s = .next { s with result := 0x00#8, q := some st } ∧
    st.getLsbD 0 = s.tx.txActive ∧ st.getLsbD 1 = s.tx.frm.burstComplete ∧
    (st.getLsbD 2 = true ↔ s.tx.bstate = .active ∧ s.tx.fstate = .inFlight) ∧
    st.getLsbD 3 = s.tx.frm.frameComplete ∧ st.getLsbD 4 = s.tx.rxExcl ∧ st.getLsbD 5 = s.tx.radioOn ∧
    st.getLsbD 8 = s.faults.ovr ∧ st.getLsbD 9 = s.faults.div0 ∧ st.getLsbD 10 = s.faults.wovf ∧
    ∀ k, k = 6 ∨ k = 7 ∨ 11 ≤ k → st.getLsbD k = false

/-- The invariant of the block (`State.Inv`) is kept by every step from every state that meets it. -/
def Obligations.InvariantKeptByEveryStep : Prop :=
  ∀ s t : State, s.Inv → step s = .next t → t.Inv

/-- The invariant holds at the reset of every legal instance, and of the one `State.reset` stands for. -/
def Obligations.InvariantHoldsAtReset : Prop :=
  (∀ p : Params, p.wellFormed = true → (State.resetOf p).Inv) ∧ State.reset.Inv

/-- R263: in every reachable state of every legal instance, both ordering invariants hold. -/
def Obligations.ReachableStatesKeepTheOrderings : Prop :=
  ∀ (p : Params) (s : State), p.wellFormed = true → Reachable p s →
    s.cfg.minWordLen.toNat ≤ s.cfg.maxWordLen.toNat ∧ s.cfg.txShort.toNat ≤ s.cfg.txLong.toNat

/-- R28, R133: in every reachable state with no fault bit set, the window lies within the stored samples, the stored
samples are complete, and every slot outside the region from `proc_idx` to `stor_idx` is clean. -/
def Obligations.ReachableStatesKeepTheRingDiscipline : Prop :=
  ∀ (p : Params) (s : State), p.wellFormed = true → Reachable p s → s.noFault = true →
    ringDist p.sampleCap s.cap.procIdx s.cap.tgtIdx ≤ ringDist p.sampleCap s.cap.procIdx s.cap.storIdx ∧
    ringDist p.sampleCap s.cap.procIdx s.cap.storIdx ≤ p.sampleCap - 1 ∧
    (∀ k < ringDist p.sampleCap s.cap.procIdx s.cap.storIdx,
      (s.cap.ring.getD ((s.cap.procIdx + k) % p.sampleCap) Sample.clean).valid = true) ∧
    (∀ k < p.sampleCap, ringDist p.sampleCap s.cap.procIdx s.cap.storIdx < k →
      s.cap.ring.getD ((s.cap.procIdx + k) % p.sampleCap) Sample.clean =
        { period := 0, width := 0, valid := false })

/-! ### Reset (10_state.md R54; 70_reset_and_hazards.md R311) -/

/-- R54: the reset value of every piece of state, of every instance. -/
def Obligations.ResetValueOfEveryField : Prop :=
  ∀ (p : Params) (s : State), s = State.resetOf p →
    s.cap.ring = List.replicate p.sampleCap { period := 0, width := 0, valid := false } ∧
    s.cap.storIdx = 0 ∧ s.cap.procIdx = 0 ∧ s.cap.tgtIdx = 0 ∧ s.cap.ovf = 0 ∧ s.cap.lastRise = 0 ∧
    s.acc.nsamp = 0 ∧ s.acc.len = 0 ∧
    (∀ j : Fin 65, s.acc.bits[j.val] = false ∧
      s.acc.recs[j.val] = { cls := .short, width := 0, period := 0 }) ∧
    s.cfg = { timeoutUs := 100000#32, matchThresh := 3#32, minWordLen := p.rstMinWordLen,
              maxWordLen := p.rstMaxWordLen, maxBitPeriod := p.rstMaxBitPeriod, txShort := p.rstTxShort,
              txLong := p.rstTxLong, frameDelayMs := p.rstFrameDelayMs, burstDelayMs := p.rstBurstDelayMs,
              repeatCount := p.rstRepeatCount, invertLogic := p.rstInvertLogic, ignoreSync := p.rstIgnoreSync,
              rxMode := p.rstRxMode } ∧
    (∀ j : Fin 12, s.corr.slots[j.val] = none) ∧ s.corr.widx = 0 ∧ s.corr.lc = none ∧ s.corr.lastInsertMs = 0#32 ∧
    s.tx.bstate = .idle ∧ s.tx.fstate = .idle ∧ (∀ j : Fin 66, s.tx.frm.duty[j.val] = 0#32) ∧
    s.tx.frm.len = 0 ∧ s.tx.frm.framesSent = 0#32 ∧ s.tx.frm.frameComplete = false ∧
    s.tx.frm.burstComplete = true ∧ s.tx.frm.lastFrameMs = 0#32 ∧
    s.tx.txActive = false ∧ s.tx.rxExcl = false ∧ (s.tx.radioOn = true ↔ p.rstRxMode ≠ 0#32) ∧
    (∀ j : Fin 5, s.queue.slots[j.val] = none) ∧ s.queue.count = 0 ∧
    s.faults.ovr = false ∧ s.faults.div0 = false ∧ s.faults.wovf = false

/-- R311, R54: from every state, RST leaves the reset values, appends `StartCapture` and one radio event to the log, and
returns OK. That the model's own fields stand is the model's choice: the issue queue (log entry 3), the ports (log entry
4) and the draw counter (log entry 7); so is holding the outputs as fields (log entry 6). -/
def Obligations.RstRestoresResetAndStartsCapture : Prop :=
  ∀ s : State,
    exec .rst s = .next { State.resetOf s.params with
      out := s.out ++ [.startCapture, if s.params.rstRxMode = 0#32 then .radioDisable else .radioEnable]
      port := s.port, inbox := s.inbox, draws := s.draws, result := 0x00#8, q := none }

/-! ### SampleCapture (40_capture.md) -/

/-- R131 with R130, R134 and R103: RISE stores the period, restarts the reference, and advances past a slot with a width
unless the ring is full; a `C` outside its domain is refused. Where the extended count would be negative the period is
the free value; its form `Config.draw`, and the counter `draws` it advances, are the model's choice (log entry 7). -/
def Obligations.RiseStoresPeriodAndAdvances : Prop :=
  ∀ s : State,
    let c := s.port.c
    let total := s.cap.ovf * s.params.timerMod + c
    let old := s.cap.ring.getD s.cap.storIdx { period := 0, width := 0, valid := false }
    let p := if s.cap.lastRise ≤ total then total - s.cap.lastRise else Config.draw s.draws
    let n := (s.cap.storIdx + 1) % s.params.sampleCap
    (s.params.timerMod ≤ c → exec .rise s = .refused .captureOutOfDomain) ∧
    (c < s.params.timerMod → exec .rise s = .next { s with
      cap := { s.cap with
        ring := s.cap.ring.set s.cap.storIdx { old with period := p }
        storIdx := if old.valid = true ∧ n ≠ s.cap.procIdx then n else s.cap.storIdx
        ovf := 0
        lastRise := c }
      faults := if old.valid = true ∧ n = s.cap.procIdx then { s.faults with ovr := true } else s.faults
      draws := if s.cap.lastRise ≤ total then s.draws else s.draws + 1
      result := 0x00#8
      q := none })

/-- R135 with R130: FALL stores the width, over whatever the slot held, marks it recorded, and moves no cursor. Where the
extended count would be negative the width is the free value; its form `Config.draw`, and the counter `draws` it
advances, are the model's choice (log entry 7). -/
def Obligations.FallStoresWidth : Prop :=
  ∀ s : State,
    let c := s.port.c
    let total := s.cap.ovf * s.params.timerMod + c
    let old := s.cap.ring.getD s.cap.storIdx { period := 0, width := 0, valid := false }
    let w := if s.cap.lastRise ≤ total then total - s.cap.lastRise else Config.draw s.draws
    c < s.params.timerMod → exec .fall s = .next { s with
      cap := { s.cap with ring := s.cap.ring.set s.cap.storIdx { old with width := w, valid := true } }
      draws := if s.cap.lastRise ≤ total then s.draws else s.draws + 1
      result := 0x00#8
      q := none }

/-- R137 with R8: OVF counts up to the cap of the current `MAX_BIT_PERIOD`, and does nothing at or above it. -/
def Obligations.OverflowCounterSaturates : Prop :=
  ∀ s : State,
    let cap := s.cfg.maxBitPeriod.toNat / s.params.timerMod + 2
    exec .ovf s = .next { s with
      cap := { s.cap with ovf := if s.cap.ovf < cap then s.cap.ovf + 1 else s.cap.ovf }
      result := 0x00#8
      q := none }

/-- R139 with R130 and R134: BCHK finalizes the current sample and snapshots the boundary when the line has been quiet
for more than `MAX_BIT_PERIOD` and something is stored; otherwise it changes nothing. Where the extended count would be
negative it is the free value; its form `Config.draw`, and the counter `draws` it advances whether or not BCHK fires, are
the model's choice (log entry 7). -/
def Obligations.BoundaryCheckSnapshotsTheWindow : Prop :=
  ∀ s : State,
    let c := s.port.c
    let total := s.cap.ovf * s.params.timerMod + c
    let old := s.cap.ring.getD s.cap.storIdx { period := 0, width := 0, valid := false }
    let e := if s.cap.lastRise ≤ total then total - s.cap.lastRise else Config.draw s.draws
    let draws := if s.cap.lastRise ≤ total then s.draws else s.draws + 1
    let n := (s.cap.storIdx + 1) % s.params.sampleCap
    let stor := if old.valid = true ∧ n ≠ s.cap.procIdx then n else s.cap.storIdx
    c < s.params.timerMod →
      (s.cfg.maxBitPeriod.toNat < e ∧ s.cap.storIdx ≠ s.cap.procIdx →
        exec .bchk s = .next { s with
          cap := { s.cap with
            ring := s.cap.ring.set s.cap.storIdx { old with period := e }
            storIdx := stor
            tgtIdx := stor }
          faults := if old.valid = true ∧ n = s.cap.procIdx then { s.faults with ovr := true } else s.faults
          draws := draws
          result := 0x00#8
          q := none }) ∧
      (¬(s.cfg.maxBitPeriod.toNat < e ∧ s.cap.storIdx ≠ s.cap.procIdx) →
        exec .bchk s = .next { s with draws := draws, result := 0x00#8, q := none })

/-- R140: with a sample stored and overflows arriving with no rising edge, enough of them make the next BCHK fire,
whatever counter value it reads. -/
def Obligations.SilenceMakesTheBoundaryFire : Prop :=
  ∀ (s : State) (c n : Nat), s.Inv → s.cap.storIdx ≠ s.cap.procIdx → c < s.params.timerMod →
    s.cfg.maxBitPeriod.toNat / s.params.timerMod + 2 - s.cap.ovf ≤ n →
    s.inbox = List.replicate n (issue .ovf Ports.quiet) ++ [issueC .bchk c] →
    ∃ t, Sys2Proof.core.run (n + 1) s = .next t ∧
      s.cfg.maxBitPeriod.toNat < (t.slot s.cap.storIdx).period ∧ t.cap.tgtIdx = t.cap.storIdx

/-- R141: a BCHK that has fired, repeated before the BUILD, changes neither cursor nor anything the BUILD reads. -/
def Obligations.RepeatedBoundaryCheckIsHarmless : Prop :=
  ∀ (s t u : State) (port : Ports), s.Inv → s.cap.storIdx ≠ s.cap.procIdx →
    s.cfg.maxBitPeriod.toNat < s.ext s.port.c s.cap.lastRise →
    exec .bchk s = .next t → t.faults.ovr = false →
    execWith .bchk port t = .next u →
      u.cap.storIdx = t.cap.storIdx ∧ u.cap.tgtIdx = t.cap.tgtIdx ∧ u.cap.procIdx = t.cap.procIdx ∧
      u.faults = t.faults ∧ ∀ i ∈ t.window, u.slot i = t.slot i

/-- R75: no interrupt-context operation changes what a BUILD after it reads. -/
def Obligations.CaptureNeverDisturbsTheWindow : Prop :=
  ∀ (i : Instr) (s t : State), i.context = .interrupt → s.Inv → exec i s = .next t →
    t.window = s.window ∧ ∀ j ∈ s.window, t.slot j = s.slot j

/-- R142, for two runs of the same draw (a choice of the model, log entry 7): capture is gated neither by the radio nor
by the scheduler, nor by the queue, which R142 does not name. -/
def Obligations.CaptureIgnoresTheTransmitSide : Prop :=
  ∀ (i : Instr) (s t : State) (x : Sched) (y : TxQueue), i = .rise ∨ i = .fall ∨ i = .ovf → exec i s = .next t →
    exec i { s with tx := x, queue := y } = .next { t with tx := x, queue := y }

/-- R11, R7: from a state that meets the invariant, where the extended count is not raced (R130), a period or a width
that RISE, FALL or BCHK stores fits in `SAMPLE_BITS` bits, so that the width of the instance cuts nothing off. The
invariant's bound on `SAMPLE_BITS`, sized for every `u32` as `MAX_BIT_PERIOD` whatever the extra bounds forbid, is the
model's reading of R11 (DEDUCED, log entry 13): an instance with a smaller width is outside the statement. -/
def Obligations.StoredCountsFitSampleBits : Prop :=
  ∀ (i : Instr) (s t : State), s.Inv → i = .rise ∨ i = .fall ∨ i = .bchk →
    s.cap.lastRise ≤ s.cap.ovf * s.params.timerMod + s.port.c → exec i s = .next t →
    ∀ j : Nat,
      ((t.slot j).period = (s.slot j).period ∨ (t.slot j).period < 2 ^ s.params.sampleBits) ∧
      ((t.slot j).width = (s.slot j).width ∨ (t.slot j).width < 2 ^ s.params.sampleBits)

/-! ### WordBuilder (41_wordbuilder.md) and the statistical mode (00_scope.md R15) -/

/-- R15: the mode of a non-empty multiset is its most frequent value, the smallest of several; `mode0` of nothing
is 0. -/
def Obligations.ModeIsTheSmallestMostFrequentValue : Prop :=
  mode0 [] = 0 ∧
  ∀ xs : List Nat, xs ≠ [] →
    mode0 xs ∈ xs ∧
    ∀ y ∈ xs, xs.count y ≤ xs.count (mode0 xs) ∧ (xs.count y = xs.count (mode0 xs) → mode0 xs ≤ y)

/-- R150, R151: a pulse is short exactly when twice its width is below the mode, and its symbol is 1 exactly when
it is long and the polarity flag is not 1, or short and the flag is 1. -/
def Obligations.ClassAndSymbolFollowTheDutyCycle : Prop :=
  (∀ w pm : Nat, 0 < pm → (classify w pm = .short ↔ 2 * w < pm) ∧ (classify w pm = .long ↔ pm ≤ 2 * w)) ∧
  (∀ inv : U32, symbolOf .long inv = decide (inv ≠ 1#32) ∧ symbolOf .short inv = decide (inv = 1#32))

/-- R152, R162: BUILD does nothing on an empty window, and discards unprocessed a window whose period mode is 0,
setting `FAULT_DIV0` and leaving the accumulator as it was. -/
def Obligations.BuildDiscardsAZeroModeWindow : Prop :=
  ∀ s : State,
    (s.cap.procIdx = s.cap.tgtIdx → exec .build s = .next { s with result := 0x00#8, q := none }) ∧
    (s.cap.procIdx ≠ s.cap.tgtIdx → mode0 ((s.window.map s.slot).map Sample.period) = 0 →
      exec .build s = .next { s.clearWindow s.window with
        faults := { s.faults with div0 := true }, result := 0x00#8, q := none })

/-- R161: BUILD completes on every window, clears exactly its slots, and moves the consumer to the snapshot; it
writes no other cursor, no register and nothing of the transmit side. -/
def Obligations.BuildClearsItsWindow : Prop :=
  ∀ s : State, s.Inv → s.cap.procIdx ≠ s.cap.tgtIdx →
    let n := s.params.sampleCap
    ∃ t, exec .build s = .next t ∧ t.result = 0x00#8 ∧ t.q = none ∧
      t.cap = { s.cap with ring := t.cap.ring, procIdx := s.cap.tgtIdx } ∧ t.cap.ring.length = n ∧
      (∀ i < n, t.slot i =
        if (i + n - s.cap.procIdx) % n < (s.cap.tgtIdx + n - s.cap.procIdx) % n then
          { period := 0, width := 0, valid := false }
        else s.slot i) ∧
      t.cfg = s.cfg ∧ t.tx = s.tx ∧ t.queue = s.queue ∧ t.draws = s.draws

/-- R152 to R160 on one sample: a window of one sample never finalizes; the sample is skipped as the synchronization
sample, dropped with `FAULT_WOVF` when the word is full, or appended with its class, symbol and record. -/
def Obligations.BuildTakesASingleSample : Prop :=
  ∀ s : State, s.Inv → (s.cap.tgtIdx + s.params.sampleCap - s.cap.procIdx) % s.params.sampleCap = 1 →
    let x := s.slot s.cap.procIdx
    let cleared := { s.cap with
      ring := s.cap.ring.set s.cap.procIdx { period := 0, width := 0, valid := false }, procIdx := s.cap.tgtIdx }
    let cls : PulseClass := if 2 * x.width < x.period then .short else .long
    let bit : Bool := if s.cfg.invertLogic = 0#32 then decide (cls = .long) else decide (cls = .short)
    0 < x.period →
      (s.acc.nsamp = 0 ∧ s.cfg.ignoreSync = 1#32 →
        exec .build s = .next { s with
          cap := cleared, acc := { s.acc with nsamp := s.acc.nsamp + 1 }, result := 0x00#8, q := none }) ∧
      (¬(s.acc.nsamp = 0 ∧ s.cfg.ignoreSync = 1#32) → s.acc.len = 65 →
        exec .build s = .next { s with
          cap := cleared, acc := { s.acc with nsamp := s.acc.nsamp + 1 }
          faults := { s.faults with wovf := true }, result := 0x00#8, q := none }) ∧
      (¬(s.acc.nsamp = 0 ∧ s.cfg.ignoreSync = 1#32) → ∀ h : s.acc.len < 65,
        exec .build s = .next { s with
          cap := cleared
          acc := { nsamp := s.acc.nsamp + 1, len := s.acc.len + 1
                   bits := s.acc.bits.set s.acc.len bit h
                   recs := s.acc.recs.set s.acc.len { cls := cls, width := x.width, period := x.period } h }
          result := 0x00#8, q := none })

/-- R163 with R154 to R156 and R160: a window whose data samples (all but a synchronization sample) are no gaps
finalizes nothing. Every sample is counted; the word so far carries over with its symbols unchanged; the data samples
that fit are appended in order, each with its symbol and with the mode as its period where its own exceeds
`TIMEOUT_US`; those that do not fit are dropped with `FAULT_WOVF`. -/
def Obligations.WindowWithoutGapCarriesOver : Prop :=
  ∀ s : State, s.Inv →
    let samples := s.window.map s.slot
    let pm := mode0 (samples.map Sample.period)
    let data := if s.acc.nsamp = 0 ∧ s.cfg.ignoreSync = 1#32 then samples.tail else samples
    0 < pm → (∀ x ∈ data, 10 * x.period ≤ 13 * pm) →
    ∃ t, exec .build s = .next t ∧ t.corr = s.corr ∧ t.out = s.out ∧
      t.acc.nsamp = s.acc.nsamp + samples.length ∧ t.acc.len = min 65 (s.acc.len + data.length) ∧
      (∀ (j : Nat) (h : j < 65), j < s.acc.len →
        t.acc.bits[j] = s.acc.bits[j] ∧ t.acc.recs[j] = s.acc.recs[j]) ∧
      (∀ (j : Nat) (x : Sample) (h : s.acc.len + j < 65), data[j]? = some x →
        let cls : PulseClass := if 2 * x.width < pm then .short else .long
        t.acc.bits[s.acc.len + j] =
          (if s.cfg.invertLogic = 0#32 then decide (cls = .long) else decide (cls = .short)) ∧
        t.acc.recs[s.acc.len + j] =
          { cls := cls, width := x.width, period := if s.cfg.timeoutUs.toNat < x.period then pm else x.period }) ∧
      t.faults = (if 65 < s.acc.len + data.length then { s.faults with wovf := true } else s.faults)

/-- R163 with R154 to R160 and R165, for every window of period mode `pm` above 0. Cut it after each gap among the data
samples: into the stretches `ends`, each with one gap as its last data sample, and a `rest` with none. The data samples
of a stretch are all but its first when `IGNORE_SYNC = 1` and a word starts with the stretch. BUILD submits one word for
each stretch of `ends`, in order, and leaves the `rest` in the accumulator. The first word, or the `rest` where there is
none, begins with what was carried over from earlier windows, with its own classes and records; every other begins
empty. A word holds at most 65 symbols, any more dropped with `FAULT_WOVF`, and is submitted with the modes of its
recorded widths and periods. -/
def Obligations.GapsCutTheWindowIntoWords : Prop :=
  ∀ (s : State) (ends : List (List Sample)) (rest : List Sample), s.Inv →
    let samples := s.window.map s.slot
    let pm := mode0 (samples.map Sample.period)
    let inv := decide (s.cfg.invertLogic = 1#32)
    let data : Nat → List Sample → List Sample := fun j xs =>
      if (j = 0 → s.acc.nsamp = 0) ∧ s.cfg.ignoreSync = 1#32 then xs.tail else xs
    let record : Sample → PosRec := fun x =>
      { cls := if 2 * x.width < pm then .short else .long, width := x.width
        period := if s.cfg.timeoutUs.toNat < x.period then pm else x.period }
    let bits : Nat → List Sample → List Bool := fun j xs =>
      ((if j = 0 then s.acc.bits.toList.take s.acc.len else []) ++
        (data j xs).map fun x => decide (pm ≤ 2 * x.width) != inv).take 65
    let recs : Nat → List Sample → List PosRec := fun j xs =>
      ((if j = 0 then s.acc.recs.toList.take s.acc.len else []) ++ (data j xs).map record).take 65
    let word : Nat → List Sample → Candidate := fun j xs =>
      { bits := bits j xs
        longUs := mode0 (((recs j xs).filter fun r => decide (r.cls = .long)).map PosRec.width)
        shortUs := mode0 (((recs j xs).filter fun r => decide (r.cls = .short)).map PosRec.width)
        periodUs := mode0 ((recs j xs).map PosRec.period)
        polarity := inv }
    let sent := (ends.mapIdx word).foldl (fun u k => (submitCore k s.port.t u).1) s
    0 < pm → samples = ends.flatten ++ rest →
    (∀ j xs, ends[j]? = some xs → ∃ before last, data j xs = before ++ [last] ∧
      (∀ x ∈ before, 10 * x.period ≤ 13 * pm) ∧ 13 * pm < 10 * last.period) →
    (∀ x ∈ data ends.length rest, 10 * x.period ≤ 13 * pm) →
    ∃ t, exec .build s = .next t ∧ t.corr = sent.corr ∧ t.out = sent.out ∧
      t.acc.nsamp = (if ends = [] then s.acc.nsamp else 0) + rest.length ∧
      t.acc.len = (bits ends.length rest).length ∧
      t.acc.bits.toList.take t.acc.len = bits ends.length rest ∧
      t.acc.recs.toList.take t.acc.len = recs ends.length rest ∧
      (∀ j : Fin 65, t.acc.len ≤ j.val → t.acc.bits[j.val] = false ∧
        t.acc.recs[j.val] = { cls := .short, width := 0, period := 0 }) ∧
      t.faults.ovr = s.faults.ovr ∧ t.faults.div0 = s.faults.div0 ∧
      (t.faults.wovf = true ↔ s.faults.wovf = true ∨ ∃ j xs, (ends ++ [rest])[j]? = some xs ∧
        65 < (if j = 0 then s.acc.len else 0) + (data j xs).length)

/-- R164, the source's round trip: a bit string sent through the scheduler's duty mapping and received with those
widths, one transmit period apart and followed by a gap, is decoded to itself, with the canonical timings, and
presented to the matcher. With `IGNORE_SYNC = 1` the string's first symbol is the synchronization symbol, and the word
is the rest (R155); where that rest is the gap sample alone, its period is the gap, or the mode where the gap exceeds
`TIMEOUT_US` (R156). -/
def Obligations.DutyRoundTripRecoversTheWord : Prop :=
  ∀ (s : State) (str : List Bool) (ds : List U32) (period gap : Nat),
    s.Inv → s.acc = Acc.clear →
    2 ≤ str.length → str.length ≤ 65 →
    2 * s.cfg.txShort.toNat < period → period ≤ 2 * s.cfg.txLong.toNat → 13 * period < 10 * gap →
    prepare s.cfg (str.map fun b => if b then 0x31#8 else 0x30#8) = some ds →
    s.window.map s.slot = (List.range str.length).map (fun j =>
      { period := if j + 1 = str.length then gap else period, width := (ds.getD j 0#32).toNat, valid := true }) →
    let inv := decide (s.cfg.invertLogic = 1#32)
    let word := if s.cfg.ignoreSync = 1#32 then str.tail else str
    let k : Candidate :=
      { bits := word
        longUs := if word.contains (!inv) then s.cfg.txLong.toNat else 0
        shortUs := if word.contains inv then s.cfg.txShort.toNat else 0
        periodUs := if word.length = 1 ∧ gap ≤ s.cfg.timeoutUs.toNat then gap else period
        polarity := inv }
    ∃ t, exec .build s = .next t ∧ t.acc = Acc.clear ∧
      t.corr = (submitCore k s.port.t s).1.corr ∧ t.out = (submitCore k s.port.t s).1.out

/-! ### CorrelationMatcher (42_matcher.md) -/

/-- R180: SUBMIT drops a candidate outside the length bounds, changing no state at all, and drops no other. -/
def Obligations.SubmitDropsExactlyBadLengths : Prop :=
  ∀ s : State, s.port.k.bits.length ≤ 65 →
    let fits := s.cfg.minWordLen.toNat ≤ s.port.k.bits.length ∧
      s.port.k.bits.length ≤ s.cfg.maxWordLen.toNat + (if s.cfg.ignoreSync = 0#32 then 1 else 0)
    (¬fits → exec .submit s = .next { s with result := 0x10#8, q := none }) ∧
    (fits → ∃ t, exec .submit s = .next t ∧ t.result ≠ 0x10#8)

/-- R182, R183: an accepted candidate is stored at the write index, into a ring first cleared if the last insertion
is at least the timeout ago; nothing but the matcher, the log and the outputs changes. -/
def Obligations.SubmitStoresTheCandidate : Prop :=
  ∀ s : State,
    let k := s.port.k
    let stale := s.cfg.timeoutUs.toNat ≤ ((s.port.t.toNat + 2 ^ 32 - s.corr.lastInsertMs.toNat) % 2 ^ 32) * 1000
    k.bits.length ≤ 65 → s.cfg.minWordLen.toNat ≤ k.bits.length →
    k.bits.length ≤ s.cfg.maxWordLen.toNat + (if s.cfg.ignoreSync = 0#32 then 1 else 0) →
    ∃ t, exec .submit s = .next t ∧
      t = { s with corr := t.corr, out := t.out, result := t.result, q := none } ∧
      t.corr.lastInsertMs = s.port.t ∧
      (stale → t.corr.widx = 1 ∧ t.corr.slots[0] = some k ∧
        (∀ j : Fin 12, j ≠ 0 → t.corr.slots[j.val] = none) ∧ (t.result = 0x91#8 ∨ t.result = 0x92#8)) ∧
      (¬stale → t.corr.widx.val = (s.corr.widx.val + 1) % 12 ∧ t.corr.slots[s.corr.widx.val] = some k ∧
        (∀ j : Fin 12, j ≠ s.corr.widx → t.corr.slots[j.val] = s.corr.slots[j.val]) ∧
        (t.result = 0x11#8 ∨ t.result = 0x12#8))

/-- R185, R186: the scan answers the first slot, in slot order, that is far enough behind the write index, is
occupied, does not repeat the last confirmed content, and has enough votes over all twelve slots. -/
def Obligations.ScanFindsTheFirstWinningSlot : Prop :=
  ∀ (c : Corr) (thresh : Nat),
    let votes : Candidate → Nat := fun a =>
      (Finset.univ.filter fun k : Fin 12 => ∃ b, c.slots[k.val] = some b ∧ b.bits = a.bits).card
    let wins : Fin 12 → Candidate → Prop := fun j a =>
      c.slots[j.val] = some a ∧ thresh ≤ (c.widx.val + 12 - j.val) % 12 ∧
      (∀ l b, c.lc = some l → c.slots[l.val] = some b → b.bits ≠ a.bits) ∧ thresh ≤ votes a
    (∀ f a, c.scan thresh = some (f, a) ↔ wins f a ∧ ∀ g, g < f → ∀ b, ¬wins g b) ∧
    (c.scan thresh = none ↔ ∀ g b, ¬wins g b)

/-- R184, R187, R188: `lc` is forgotten when its slot is written; a slot the scan finds always confirms, with that
slot's content, and becomes `lc`; without one, no event is emitted. -/
def Obligations.ConfirmationFollowsTheScan : Prop :=
  ∀ s t : State, lengthOk s.cfg s.port.k.length = true → exec .submit s = .next t →
    let base := if s.isStale s.port.t then s.corr.cleared else s.corr
    let forgotten := { base with lc := if base.lc = some base.widx then none else base.lc }
    let c := forgotten.insert s.port.k s.port.t
    let bit : Code := if s.isStale s.port.t then 0x80#8 else 0x00#8
    (c.scan s.cfg.matchThresh.toNat = none →
      t.corr = c ∧ t.out = s.out ∧ t.result = 0x11#8 ||| bit) ∧
    (∀ f a, c.scan s.cfg.matchThresh.toNat = some (f, a) →
      c.lc ≠ some f ∧ t.corr = { c with lc := some f } ∧
      t.out = s.out ++ [.confirm a.bits a.bits.length a.longUs a.shortUs a.periodUs a.polarity] ∧
      t.result = 0x12#8 ||| bit)

/-- R189, the source's threshold property: at threshold 3, from an empty ring at any write index, the same word
submitted four times with no clear between yields exactly one confirmation, at the third. -/
def Obligations.ThreeSubmissionsConfirmOnce : Prop :=
  ∀ (s : State) (k : Candidate) (t0 t1 t2 t3 : U32),
    s.cfg.matchThresh = 3#32 → k.length ≤ 65 → lengthOk s.cfg k.length = true →
    (∀ j : Fin 12, s.corr.slots[j.val] = none) → s.corr.lc = none →
    elapsed t1 t0 * 1000 < s.cfg.timeoutUs.toNat → elapsed t2 t1 * 1000 < s.cfg.timeoutUs.toNat →
    elapsed t3 t2 * 1000 < s.cfg.timeoutUs.toNat →
    ∃ s1 s2 s3 s4,
      execWith .submit { Ports.quiet with t := t0, k := k } s = .next s1 ∧
      execWith .submit { Ports.quiet with t := t1, k := k } s1 = .next s2 ∧
      execWith .submit { Ports.quiet with t := t2, k := k } s2 = .next s3 ∧
      execWith .submit { Ports.quiet with t := t3, k := k } s3 = .next s4 ∧
      s1.out = s.out ∧ s2.out = s.out ∧
      s3.out = s.out ++ [.confirm k.bits k.bits.length k.longUs k.shortUs k.periodUs k.polarity] ∧
      s4.out = s3.out ∧
      (s1.result = 0x11#8 ∨ s1.result = 0x91#8) ∧ s2.result = 0x11#8 ∧ s3.result = 0x12#8 ∧ s4.result = 0x11#8

/-- R191: at a threshold of 12 or more nothing ever confirms; an accepted submission that clears the ring confirms
at once exactly when the threshold is at most 1. -/
def Obligations.ThresholdExtremes : Prop :=
  ∀ s t : State, lengthOk s.cfg s.port.k.length = true → exec .submit s = .next t →
    (12 ≤ s.cfg.matchThresh.toNat → t.out = s.out ∧ (t.result = 0x11#8 ∨ t.result = 0x91#8)) ∧
    (s.cfg.timeoutUs = 0#32 → s.isStale s.port.t = true) ∧
    (s.isStale s.port.t = true → 2 ≤ s.cfg.matchThresh.toNat → t.out = s.out ∧ t.result = 0x91#8) ∧
    (s.isStale s.port.t = true → s.cfg.matchThresh.toNat ≤ 1 →
      t.out = s.out ++ [confirmOf s.port.k] ∧ t.result = 0x92#8 ∧ t.corr.lc = some 0)

/-! ### BurstScheduler (43_scheduler.md) -/

/-- R202, R203: in `BURST_IDLE`, SCHED returns OK while the inter-burst delay runs, and `TX_EMPTY` on an empty queue;
either way it changes no state. -/
def Obligations.IdleSchedulerWaits : Prop :=
  ∀ s : State, s.tx.bstate = .idle →
    let e := (s.port.t.toNat + 2 ^ 32 - s.tx.frm.lastFrameMs.toNat) % 2 ^ 32
    (e < s.cfg.burstDelayMs.toNat → exec .sched s = .next { s with result := 0x00#8, q := none }) ∧
    (s.cfg.burstDelayMs.toNat ≤ e → s.queue.count = 0 →
      exec .sched s = .next { s with result := 0x04#8, q := none })

/-- R204, R227: a head entry with a symbol other than `'0'` and `'1'` is removed, the queue shifts, no frame field
changes, and SCHED returns `PREP_FAILED`. -/
def Obligations.BadHeadEntryIsDiscarded : Prop :=
  ∀ (s : State) (str : List Byte), s.tx.bstate = .idle →
    s.cfg.burstDelayMs.toNat ≤ elapsed s.port.t s.tx.frm.lastFrameMs →
    0 < s.queue.count → s.queue.slots[0] = some str → (∃ b ∈ str, b ≠ 0x30#8 ∧ b ≠ 0x31#8) →
    exec .sched s = .next { s with
      queue := {
        slots := #v[s.queue.slots[1], s.queue.slots[2], s.queue.slots[3], s.queue.slots[4], none]
        count := s.queue.count - 1 }
      result := 0x02#8
      q := none }

/-- R200, R205: a head entry of `'0'`s and `'1'`s starts a burst: the entry is consumed, the frame holds its duty
values and a terminating 0, and in mode `OFF_DURING_TX` the radio is disabled for exclusion. -/
def Obligations.BurstStartsFromTheHeadEntry : Prop :=
  ∀ (s : State) (str : List Byte), s.tx.bstate = .idle →
    s.cfg.burstDelayMs.toNat ≤ elapsed s.port.t s.tx.frm.lastFrameMs →
    0 < s.queue.count → s.queue.slots[0] = some str → str.length ≤ 65 →
    (∀ b ∈ str, b = 0x30#8 ∨ b = 0x31#8) →
    ∃ duty : Vector U32 66,
      (∀ j : Fin 66, duty[j.val] =
        match str[j.val]? with
        | some b =>
          if b = 0x31#8 then (if s.cfg.invertLogic = 0#32 then s.cfg.txLong else s.cfg.txShort)
          else (if s.cfg.invertLogic = 0#32 then s.cfg.txShort else s.cfg.txLong)
        | none => 0#32) ∧
      exec .sched s = .next { s with
        queue := {
          slots := #v[s.queue.slots[1], s.queue.slots[2], s.queue.slots[3], s.queue.slots[4], none]
          count := s.queue.count - 1 }
        tx := {
          bstate := .active
          fstate := .idle
          frm := {
            duty := duty
            len := str.length + 1
            framesSent := s.params.framesSentInit
            frameComplete := false
            burstComplete := false
            lastFrameMs := s.tx.frm.lastFrameMs }
          txActive := true
          rxExcl := if s.cfg.rxMode = 2#32 then true else s.tx.rxExcl
          radioOn := if s.cfg.rxMode = 2#32 then false else s.tx.radioOn }
        out := if s.cfg.rxMode = 2#32 then s.out ++ [.radioDisable] else s.out
        result := 0x20#8
        q := none }

/-- R206, R207, R208: in `BURST_ACTIVE`, SCHED waits for a frame in flight, triggers the first frame at once, and
retriggers after the frame delay, counting the frame. -/
def Obligations.ActiveSchedulerTriggersFrames : Prop :=
  ∀ s : State, s.tx.bstate = .active →
    let train : Event := .pulseTrain (s.tx.frm.duty.toList.take s.tx.frm.len) s.tx.frm.len
    let e := (s.port.t.toNat + 2 ^ 32 - s.tx.frm.lastFrameMs.toNat) % 2 ^ 32
    (s.tx.fstate = .inFlight → exec .sched s = .next { s with result := 0x00#8, q := none }) ∧
    (s.tx.fstate = .idle → s.tx.frm.frameComplete = false →
      exec .sched s = .next { s with
        tx := { s.tx with fstate := .inFlight }, out := s.out ++ [train], result := 0x21#8, q := none }) ∧
    (s.tx.fstate = .idle → s.tx.frm.frameComplete = true → s.cfg.frameDelayMs.toNat ≤ e →
      exec .sched s = .next { s with
        tx := { s.tx with
          fstate := .inFlight
          frm := { s.tx.frm with framesSent := s.tx.frm.framesSent + 1#32, frameComplete := false } }
        out := s.out ++ [train], result := 0x21#8, q := none }) ∧
    (s.tx.fstate = .idle → s.tx.frm.frameComplete = true → e < s.cfg.frameDelayMs.toNat →
      exec .sched s = .next { s with result := 0x00#8, q := none })

/-- R215, R219: TXDONE completes the frame in flight, ends the burst when `frames_sent` exceeds the repeat count,
re-enables a radio that was shut out, and is ignored with no frame in flight. -/
def Obligations.CompletionEndsOrContinuesTheBurst : Prop :=
  ∀ s : State,
    let flying := s.tx.bstate = .active ∧ s.tx.fstate = .inFlight
    (¬flying → exec .txdone s = .next { s with result := 0x06#8, q := none }) ∧
    (flying → s.tx.frm.framesSent.toNat ≤ s.cfg.repeatCount.toNat →
      exec .txdone s = .next { s with
        tx := { s.tx with
          fstate := .idle, frm := { s.tx.frm with frameComplete := true, lastFrameMs := s.port.t } }
        result := 0x22#8
        q := none }) ∧
    (flying → s.cfg.repeatCount.toNat < s.tx.frm.framesSent.toNat →
      exec .txdone s = .next { s with
        tx := {
          bstate := .idle
          fstate := .idle
          frm := { s.tx.frm with frameComplete := true, lastFrameMs := s.port.t, burstComplete := true }
          txActive := false
          rxExcl := false
          radioOn := if s.tx.rxExcl = true then true else s.tx.radioOn }
        out := if s.tx.rxExcl = true then s.out ++ [.radioEnable] else s.out
        result := 0x23#8
        q := none })

/-- R217: apart from SET `RX_MODE` and RST, an operation emits a radio event only when a burst starts in mode
`OFF_DURING_TX`, exactly one `RadioDisable`, or when a burst ends whose start shut the radio out, exactly one
`RadioEnable`. -/
def Obligations.RadioIsSwitchedOnlyAtBurstStartAndEnd : Prop :=
  ∀ (i : Instr) (s t : State), i ≠ .setRxMode → i ≠ .rst → exec i s = .next t →
    let radio := (t.out.drop s.out.length).filter fun e => e == .radioEnable || e == .radioDisable
    (s.tx.bstate = .idle ∧ t.tx.bstate = .active ∧ s.cfg.rxMode = 2#32 →
      i = .sched ∧ radio = [.radioDisable] ∧ t.tx.rxExcl = true) ∧
    (s.tx.bstate = .active ∧ t.tx.bstate = .idle ∧ s.tx.rxExcl = true →
      i = .txdone ∧ radio = [.radioEnable] ∧ t.tx.rxExcl = false) ∧
    (¬(s.tx.bstate = .idle ∧ t.tx.bstate = .active ∧ s.cfg.rxMode = 2#32) →
      ¬(s.tx.bstate = .active ∧ t.tx.bstate = .idle ∧ s.tx.rxExcl = true) →
      radio = [] ∧ t.tx.radioOn = s.tx.radioOn ∧ t.tx.rxExcl = s.tx.rxExcl)

/-- R216: with `f` in `frames_sent` at the first frame in flight and repeat count `R` below `2^32 - 1`, the burst goes
out in `R + 1 - f` further frames, each the same pulse train, and the completion of exactly the last one ends it. -/
def Obligations.BurstSendsItsFramesAndEnds : Prop :=
  ∀ (s : State) (ts : List U32) (done : U32),
    s.tx.bstate = .active → s.tx.fstate = .inFlight → s.cfg.repeatCount.toNat < 2 ^ 32 - 1 →
    let more := s.cfg.repeatCount.toNat + 1 - s.tx.frm.framesSent.toNat
    let train : Event := .pulseTrain (s.tx.frm.duty.toList.take s.tx.frm.len) s.tx.frm.len
    ts.length ≤ more →
    ∃ t u, frameRounds ts s = .next t ∧
      t.tx.bstate = .active ∧ t.tx.fstate = .inFlight ∧
      t.tx.frm.framesSent.toNat = s.tx.frm.framesSent.toNat + ts.length ∧
      t.out = s.out ++ List.replicate ts.length train ∧
      execWith .txdone { Ports.quiet with t := done } t = .next u ∧
      (ts.length < more → u.result = 0x22#8 ∧ u.tx.bstate = .active) ∧
      (ts.length = more → u.result = 0x23#8 ∧ u.tx.bstate = .idle)

/-- R208, R326, R327: a frame in flight leaves it only through TXDONE, or by RST; and with the largest repeat count no
TXDONE ends the burst. -/
def Obligations.FrameInFlightWaitsForCompletion : Prop :=
  ∀ (i : Instr) (s t : State), s.tx.bstate = .active → exec i s = .next t →
    (s.tx.fstate = .inFlight → i ≠ .txdone → i ≠ .rst → t.tx.bstate = .active ∧ t.tx.fstate = .inFlight) ∧
    (s.cfg.repeatCount = 0xFFFFFFFF#32 → i ≠ .rst → t.tx.bstate = .active)

/-! ### TxQueue (44_txqueue.md) -/

/-- R226, R229, R230: ENQ rejects a bad length, then a full queue, changing no state; otherwise it writes the first
empty slot and counts it. The bytes are not checked. -/
def Obligations.EnqueueChecksLengthThenRoom : Prop :=
  ∀ s : State, s.port.s.length ≤ 255 →
    (s.port.s.length = 0 ∨ 65 < s.port.s.length → exec .enq s = .next { s with result := 0x01#8, q := none }) ∧
    (1 ≤ s.port.s.length → s.port.s.length ≤ 65 → s.queue.count = 5 →
      exec .enq s = .next { s with result := 0x03#8, q := none }) ∧
    (1 ≤ s.port.s.length → s.port.s.length ≤ 65 → ∀ h : s.queue.count < 5,
      exec .enq s = .next { s with
        queue := { slots := s.queue.slots.set s.queue.count (some s.port.s) h, count := s.queue.count + 1 }
        result := 0x00#8
        q := none })

/-- R231: entries leave in the order they arrived: an accepted ENQ appends to the queue's contents, every burst
attempt removes the head, and no other operation but RST changes them. -/
def Obligations.QueueIsFirstInFirstOut : Prop :=
  ∀ s : State, s.Inv →
    s.queue.contents.length = s.queue.count ∧
    (1 ≤ s.port.s.length → s.port.s.length ≤ 65 → s.queue.count < 5 →
      ∃ t, exec .enq s = .next t ∧ t.queue.contents = s.queue.contents ++ [s.port.s]) ∧
    (s.tx.bstate = .idle → s.cfg.burstDelayMs.toNat ≤ elapsed s.port.t s.tx.frm.lastFrameMs →
      0 < s.queue.count → ∃ t, exec .sched s = .next t ∧ t.queue.contents = s.queue.contents.tail) ∧
    (∀ i t, i ≠ .enq → i ≠ .sched → i ≠ .rst → exec i s = .next t → t.queue.contents = s.queue.contents)

/-- R228, the source's queue property: five legal strings fill an empty queue, a sixth ENQ returns `QUEUE_FULL` and
changes nothing (the model's own ports and outputs move, log entries 4 and 6), and after one burst attempt, whether or
not its preparation succeeds, it is accepted. -/
def Obligations.SixthEnqueueWaitsForOneAttempt : Prop :=
  ∀ (s : State) (a b c d e f : List Byte) (t : U32), s.Inv → s.queue.count = 0 → s.tx.bstate = .idle →
    s.cfg.burstDelayMs.toNat ≤ elapsed t s.tx.frm.lastFrameMs →
    (∀ x ∈ [a, b, c, d, e, f], 1 ≤ x.length ∧ x.length ≤ 65) →
    ∃ s1 s2 s3 s4 s5 s6 s7 s8,
      execWith .enq { Ports.quiet with s := a } s = .next s1 ∧ s1.result = 0x00#8 ∧
      execWith .enq { Ports.quiet with s := b } s1 = .next s2 ∧ s2.result = 0x00#8 ∧
      execWith .enq { Ports.quiet with s := c } s2 = .next s3 ∧ s3.result = 0x00#8 ∧
      execWith .enq { Ports.quiet with s := d } s3 = .next s4 ∧ s4.result = 0x00#8 ∧
      execWith .enq { Ports.quiet with s := e } s4 = .next s5 ∧ s5.result = 0x00#8 ∧
      execWith .enq { Ports.quiet with s := f } s5 = .next s6 ∧
      s6 = { s5 with port := { Ports.quiet with s := f }, result := 0x03#8, q := none } ∧
      execWith .sched { Ports.quiet with t := t } s6 = .next s7 ∧ s7.queue.count = 4 ∧
      (s7.result = 0x20#8 ∨ s7.result = 0x02#8) ∧
      execWith .enq { Ports.quiet with s := f } s7 = .next s8 ∧ s8.result = 0x00#8 ∧
      s8.queue.contents = [b, c, d, e, f]

/-! ### Configuration registers (45_config.md) -/

/-- R237: a SET of a register other than `RX_MODE` replaces that register whole when its value is legal and within
the extra bounds, and otherwise changes no state; no other register and no other part of the state changes. -/
def Obligations.SetReplacesItsRegisterOrRejects : Prop :=
  ∀ (s : State) (r : CfgReg), r ≠ .rxMode →
    let v := s.port.v
    (s.cfg.legal r v = true ∧ s.params.allows r v = true →
      ∃ c : CfgRegs, c.get r = v ∧ (∀ r', r' ≠ r → c.get r' = s.cfg.get r') ∧
        exec (setInstr r) s = .next { s with cfg := c, result := 0x00#8, q := none }) ∧
    (¬(s.cfg.legal r v = true ∧ s.params.allows r v = true) →
      exec (setInstr r) s = .next { s with result := 0x01#8, q := none })

/-- R31, R238: the legal values of each register, and the extra bounds. Those forbid exactly the values in the ranges
listed for the register, which is the form the model gives `CFG_EXTRA_BOUNDS` (DESIGN CHOICE, log entry 2); with none
listed, the spec's default, every legal value is accepted. -/
def Obligations.LegalValuesOfEachRegister : Prop :=
  (∀ (c : CfgRegs) (v : U32),
    c.legal .timeoutUs v = true ∧ c.legal .matchThresh v = true ∧
    (c.legal .minWordLen v = true ↔ v.toNat ≤ c.maxWordLen.toNat) ∧
    (c.legal .maxWordLen v = true ↔ c.minWordLen.toNat ≤ v.toNat) ∧
    c.legal .maxBitPeriod v = true ∧
    (c.legal .txShort v = true ↔ v.toNat ≤ c.txLong.toNat) ∧
    (c.legal .txLong v = true ↔ c.txShort.toNat ≤ v.toNat) ∧
    c.legal .frameDelayMs v = true ∧ c.legal .burstDelayMs v = true ∧ c.legal .repeatCount v = true ∧
    (c.legal .invertLogic v = true ↔ v = 0#32 ∨ v = 1#32) ∧
    (c.legal .ignoreSync v = true ↔ v = 0#32 ∨ v = 1#32) ∧
    (c.legal .rxMode v = true ↔ v = 0#32 ∨ v = 1#32 ∨ v = 2#32)) ∧
  (∀ (p : Params) (r : CfgReg) (v : U32),
    (p.allows r v = false ↔ ∃ b ∈ p.extraBounds, b.reg = r ∧ b.lo.toNat ≤ v.toNat ∧ v.toNat ≤ b.hi.toNat) ∧
    (p.extraBounds = [] → p.allows r v = true))

/-- R253: SET `RX_MODE` acts at once: it writes the register, emits one radio event even when the radio is already
as required, and sets the exclusion exactly when it switches to `OFF_DURING_TX` in the middle of a burst. -/
def Obligations.ReceiveModeActsAtOnce : Prop :=
  ∀ s : State,
    let v := s.port.v
    let off := v = 0#32 ∨ (v = 2#32 ∧ s.tx.txActive = true)
    ((v = 0#32 ∨ v = 1#32 ∨ v = 2#32) → s.params.allows .rxMode v = true →
      exec .setRxMode s = .next { s with
        cfg := { s.cfg with rxMode := v }
        tx := { s.tx with
          radioOn := if off then false else true
          rxExcl := if v = 2#32 ∧ s.tx.txActive = true then true else false }
        out := s.out ++ [if off then .radioDisable else .radioEnable]
        result := 0x00#8
        q := none }) ∧
    (¬((v = 0#32 ∨ v = 1#32 ∨ v = 2#32) ∧ s.params.allows .rxMode v = true) →
      exec .setRxMode s = .next { s with result := 0x01#8, q := none })

/-- R236, R50: every GET drives its register's value on `Q`, returns OK, and has no side effect. Reading a natural (the
three cursors, `QCOUNT`, `CORR_WIDX`, `OVF_COUNT`) as 32 bits, modulo 2^32, is the model's reading of R50's zero extension
(DEDUCED, log entry 10); in a state that meets the invariant it cuts off only a cursor, where `SAMPLE_CAP` is above
2^32. -/
def Obligations.GetReadsItsRegister : Prop :=
  ∀ s : State,
    (∀ r, exec (getInstr r) s = .next { s with result := 0x00#8, q := some (s.cfg.get r) }) ∧
    exec .getStatus s = .next { s with result := 0x00#8, q := some s.status } ∧
    exec .getQcount s = .next { s with result := 0x00#8, q := some (BitVec.ofNat 32 s.queue.count) } ∧
    exec .getStorIdx s = .next { s with result := 0x00#8, q := some (BitVec.ofNat 32 s.cap.storIdx) } ∧
    exec .getProcIdx s = .next { s with result := 0x00#8, q := some (BitVec.ofNat 32 s.cap.procIdx) } ∧
    exec .getTgtIdx s = .next { s with result := 0x00#8, q := some (BitVec.ofNat 32 s.cap.tgtIdx) } ∧
    exec .getCorrWidx s = .next { s with result := 0x00#8, q := some (BitVec.ofNat 32 s.corr.widx.val) } ∧
    exec .getFramesSent s = .next { s with result := 0x00#8, q := some s.tx.frm.framesSent } ∧
    exec .getOvfCount s = .next { s with result := 0x00#8, q := some (BitVec.ofNat 32 s.cap.ovf) }

/-- R330, its two conditions on the state at the end of a run: no fault bit is set and no frame is in flight exactly when
`STATUS` shows neither. The third condition, that no operation was refused, is no part of the state and not in this
statement: it is the outcome of the run's steps (`OperationsCompleteOnTheirPortDomains`). -/
def Obligations.AcceptableEndIsVisibleInStatus : Prop :=
  ∀ s : State, s.acceptableEnd = true ↔ s.status &&& 0x00000704#32 = 0#32
end

