-- ==== Sys2Proof/Laws/State.lean ====
section
/-! SUPPORT. One lemma for each field of `State` after each update of the state, so that no later proof unfolds a
record update. A field an update may change has its lemma under Laws/Ops.lean where it needs a case split. -/

namespace Sys2Proof.Machine

@[simp] theorem State.emit_cap (s : State) (e : Event) :
    (s.emit e).cap = s.cap := rfl
@[simp] theorem State.emit_cfg (s : State) (e : Event) :
    (s.emit e).cfg = s.cfg := rfl
@[simp] theorem State.emit_acc (s : State) (e : Event) :
    (s.emit e).acc = s.acc := rfl
@[simp] theorem State.emit_corr (s : State) (e : Event) :
    (s.emit e).corr = s.corr := rfl
@[simp] theorem State.emit_tx (s : State) (e : Event) :
    (s.emit e).tx = s.tx := rfl
@[simp] theorem State.emit_queue (s : State) (e : Event) :
    (s.emit e).queue = s.queue := rfl
@[simp] theorem State.emit_faults (s : State) (e : Event) :
    (s.emit e).faults = s.faults := rfl
@[simp] theorem State.emit_out (s : State) (e : Event) :
    (s.emit e).out = s.out ++ [e] := rfl
@[simp] theorem State.emit_result (s : State) (e : Event) :
    (s.emit e).result = s.result := rfl
@[simp] theorem State.emit_q (s : State) (e : Event) :
    (s.emit e).q = s.q := rfl
@[simp] theorem State.emit_port (s : State) (e : Event) :
    (s.emit e).port = s.port := rfl
@[simp] theorem State.emit_inbox (s : State) (e : Event) :
    (s.emit e).inbox = s.inbox := rfl
@[simp] theorem State.emit_params (s : State) (e : Event) :
    (s.emit e).params = s.params := rfl
@[simp] theorem State.emit_draws (s : State) (e : Event) :
    (s.emit e).draws = s.draws := rfl

@[simp] theorem State.returns_cap (s : State) (c : Code) :
    (s.returns c).cap = s.cap := rfl
@[simp] theorem State.returns_cfg (s : State) (c : Code) :
    (s.returns c).cfg = s.cfg := rfl
@[simp] theorem State.returns_acc (s : State) (c : Code) :
    (s.returns c).acc = s.acc := rfl
@[simp] theorem State.returns_corr (s : State) (c : Code) :
    (s.returns c).corr = s.corr := rfl
@[simp] theorem State.returns_tx (s : State) (c : Code) :
    (s.returns c).tx = s.tx := rfl
@[simp] theorem State.returns_queue (s : State) (c : Code) :
    (s.returns c).queue = s.queue := rfl
@[simp] theorem State.returns_faults (s : State) (c : Code) :
    (s.returns c).faults = s.faults := rfl
@[simp] theorem State.returns_out (s : State) (c : Code) :
    (s.returns c).out = s.out := rfl
@[simp] theorem State.returns_result (s : State) (c : Code) :
    (s.returns c).result = c := rfl
@[simp] theorem State.returns_q (s : State) (c : Code) :
    (s.returns c).q = none := rfl
@[simp] theorem State.returns_port (s : State) (c : Code) :
    (s.returns c).port = s.port := rfl
@[simp] theorem State.returns_inbox (s : State) (c : Code) :
    (s.returns c).inbox = s.inbox := rfl
@[simp] theorem State.returns_params (s : State) (c : Code) :
    (s.returns c).params = s.params := rfl
@[simp] theorem State.returns_draws (s : State) (c : Code) :
    (s.returns c).draws = s.draws := rfl

@[simp] theorem State.drives_cap (s : State) (v : U32) :
    (s.drives v).cap = s.cap := rfl
@[simp] theorem State.drives_cfg (s : State) (v : U32) :
    (s.drives v).cfg = s.cfg := rfl
@[simp] theorem State.drives_acc (s : State) (v : U32) :
    (s.drives v).acc = s.acc := rfl
@[simp] theorem State.drives_corr (s : State) (v : U32) :
    (s.drives v).corr = s.corr := rfl
@[simp] theorem State.drives_tx (s : State) (v : U32) :
    (s.drives v).tx = s.tx := rfl
@[simp] theorem State.drives_queue (s : State) (v : U32) :
    (s.drives v).queue = s.queue := rfl
@[simp] theorem State.drives_faults (s : State) (v : U32) :
    (s.drives v).faults = s.faults := rfl
@[simp] theorem State.drives_out (s : State) (v : U32) :
    (s.drives v).out = s.out := rfl
@[simp] theorem State.drives_result (s : State) (v : U32) :
    (s.drives v).result = Code.ok := rfl
@[simp] theorem State.drives_q (s : State) (v : U32) :
    (s.drives v).q = some v := rfl
@[simp] theorem State.drives_port (s : State) (v : U32) :
    (s.drives v).port = s.port := rfl
@[simp] theorem State.drives_inbox (s : State) (v : U32) :
    (s.drives v).inbox = s.inbox := rfl
@[simp] theorem State.drives_params (s : State) (v : U32) :
    (s.drives v).params = s.params := rfl
@[simp] theorem State.drives_draws (s : State) (v : U32) :
    (s.drives v).draws = s.draws := rfl

@[simp] theorem State.setSlot_cap (s : State) (i : Nat) (x : Sample) :
    (s.setSlot i x).cap = { s.cap with ring := s.cap.ring.set i x } := rfl
@[simp] theorem State.setSlot_cfg (s : State) (i : Nat) (x : Sample) :
    (s.setSlot i x).cfg = s.cfg := rfl
@[simp] theorem State.setSlot_acc (s : State) (i : Nat) (x : Sample) :
    (s.setSlot i x).acc = s.acc := rfl
@[simp] theorem State.setSlot_corr (s : State) (i : Nat) (x : Sample) :
    (s.setSlot i x).corr = s.corr := rfl
@[simp] theorem State.setSlot_tx (s : State) (i : Nat) (x : Sample) :
    (s.setSlot i x).tx = s.tx := rfl
@[simp] theorem State.setSlot_queue (s : State) (i : Nat) (x : Sample) :
    (s.setSlot i x).queue = s.queue := rfl
@[simp] theorem State.setSlot_faults (s : State) (i : Nat) (x : Sample) :
    (s.setSlot i x).faults = s.faults := rfl
@[simp] theorem State.setSlot_out (s : State) (i : Nat) (x : Sample) :
    (s.setSlot i x).out = s.out := rfl
@[simp] theorem State.setSlot_result (s : State) (i : Nat) (x : Sample) :
    (s.setSlot i x).result = s.result := rfl
@[simp] theorem State.setSlot_q (s : State) (i : Nat) (x : Sample) :
    (s.setSlot i x).q = s.q := rfl
@[simp] theorem State.setSlot_port (s : State) (i : Nat) (x : Sample) :
    (s.setSlot i x).port = s.port := rfl
@[simp] theorem State.setSlot_inbox (s : State) (i : Nat) (x : Sample) :
    (s.setSlot i x).inbox = s.inbox := rfl
@[simp] theorem State.setSlot_params (s : State) (i : Nat) (x : Sample) :
    (s.setSlot i x).params = s.params := rfl
@[simp] theorem State.setSlot_draws (s : State) (i : Nat) (x : Sample) :
    (s.setSlot i x).draws = s.draws := rfl

@[simp] theorem State.storePeriod_cap (s : State) (p : Nat) :
    (s.storePeriod p).cap = { s.cap with ring := s.cap.ring.set s.cap.storIdx { s.slot s.cap.storIdx with period := p } } := rfl
@[simp] theorem State.storePeriod_cfg (s : State) (p : Nat) :
    (s.storePeriod p).cfg = s.cfg := rfl
@[simp] theorem State.storePeriod_acc (s : State) (p : Nat) :
    (s.storePeriod p).acc = s.acc := rfl
@[simp] theorem State.storePeriod_corr (s : State) (p : Nat) :
    (s.storePeriod p).corr = s.corr := rfl
@[simp] theorem State.storePeriod_tx (s : State) (p : Nat) :
    (s.storePeriod p).tx = s.tx := rfl
@[simp] theorem State.storePeriod_queue (s : State) (p : Nat) :
    (s.storePeriod p).queue = s.queue := rfl
@[simp] theorem State.storePeriod_faults (s : State) (p : Nat) :
    (s.storePeriod p).faults = s.faults := rfl
@[simp] theorem State.storePeriod_out (s : State) (p : Nat) :
    (s.storePeriod p).out = s.out := rfl
@[simp] theorem State.storePeriod_result (s : State) (p : Nat) :
    (s.storePeriod p).result = s.result := rfl
@[simp] theorem State.storePeriod_q (s : State) (p : Nat) :
    (s.storePeriod p).q = s.q := rfl
@[simp] theorem State.storePeriod_port (s : State) (p : Nat) :
    (s.storePeriod p).port = s.port := rfl
@[simp] theorem State.storePeriod_inbox (s : State) (p : Nat) :
    (s.storePeriod p).inbox = s.inbox := rfl
@[simp] theorem State.storePeriod_params (s : State) (p : Nat) :
    (s.storePeriod p).params = s.params := rfl
@[simp] theorem State.storePeriod_draws (s : State) (p : Nat) :
    (s.storePeriod p).draws = s.draws := rfl

@[simp] theorem State.storeWidth_cap (s : State) (w : Nat) :
    (s.storeWidth w).cap = { s.cap with ring := s.cap.ring.set s.cap.storIdx { s.slot s.cap.storIdx with width := w, valid := true } } := rfl
@[simp] theorem State.storeWidth_cfg (s : State) (w : Nat) :
    (s.storeWidth w).cfg = s.cfg := rfl
@[simp] theorem State.storeWidth_acc (s : State) (w : Nat) :
    (s.storeWidth w).acc = s.acc := rfl
@[simp] theorem State.storeWidth_corr (s : State) (w : Nat) :
    (s.storeWidth w).corr = s.corr := rfl
@[simp] theorem State.storeWidth_tx (s : State) (w : Nat) :
    (s.storeWidth w).tx = s.tx := rfl
@[simp] theorem State.storeWidth_queue (s : State) (w : Nat) :
    (s.storeWidth w).queue = s.queue := rfl
@[simp] theorem State.storeWidth_faults (s : State) (w : Nat) :
    (s.storeWidth w).faults = s.faults := rfl
@[simp] theorem State.storeWidth_out (s : State) (w : Nat) :
    (s.storeWidth w).out = s.out := rfl
@[simp] theorem State.storeWidth_result (s : State) (w : Nat) :
    (s.storeWidth w).result = s.result := rfl
@[simp] theorem State.storeWidth_q (s : State) (w : Nat) :
    (s.storeWidth w).q = s.q := rfl
@[simp] theorem State.storeWidth_port (s : State) (w : Nat) :
    (s.storeWidth w).port = s.port := rfl
@[simp] theorem State.storeWidth_inbox (s : State) (w : Nat) :
    (s.storeWidth w).inbox = s.inbox := rfl
@[simp] theorem State.storeWidth_params (s : State) (w : Nat) :
    (s.storeWidth w).params = s.params := rfl
@[simp] theorem State.storeWidth_draws (s : State) (w : Nat) :
    (s.storeWidth w).draws = s.draws := rfl

@[simp] theorem State.clearWindow_cap (s : State) (w : List Nat) :
    (s.clearWindow w).cap = { s.cap with ring := w.foldl (fun r i => r.set i Sample.clean) s.cap.ring, procIdx := s.cap.tgtIdx } := rfl
@[simp] theorem State.clearWindow_cfg (s : State) (w : List Nat) :
    (s.clearWindow w).cfg = s.cfg := rfl
@[simp] theorem State.clearWindow_acc (s : State) (w : List Nat) :
    (s.clearWindow w).acc = s.acc := rfl
@[simp] theorem State.clearWindow_corr (s : State) (w : List Nat) :
    (s.clearWindow w).corr = s.corr := rfl
@[simp] theorem State.clearWindow_tx (s : State) (w : List Nat) :
    (s.clearWindow w).tx = s.tx := rfl
@[simp] theorem State.clearWindow_queue (s : State) (w : List Nat) :
    (s.clearWindow w).queue = s.queue := rfl
@[simp] theorem State.clearWindow_faults (s : State) (w : List Nat) :
    (s.clearWindow w).faults = s.faults := rfl
@[simp] theorem State.clearWindow_out (s : State) (w : List Nat) :
    (s.clearWindow w).out = s.out := rfl
@[simp] theorem State.clearWindow_result (s : State) (w : List Nat) :
    (s.clearWindow w).result = s.result := rfl
@[simp] theorem State.clearWindow_q (s : State) (w : List Nat) :
    (s.clearWindow w).q = s.q := rfl
@[simp] theorem State.clearWindow_port (s : State) (w : List Nat) :
    (s.clearWindow w).port = s.port := rfl
@[simp] theorem State.clearWindow_inbox (s : State) (w : List Nat) :
    (s.clearWindow w).inbox = s.inbox := rfl
@[simp] theorem State.clearWindow_params (s : State) (w : List Nat) :
    (s.clearWindow w).params = s.params := rfl
@[simp] theorem State.clearWindow_draws (s : State) (w : List Nat) :
    (s.clearWindow w).draws = s.draws := rfl

@[simp] theorem State.appendSymbol_cap (s : State) (b : Bool) (r : PosRec) :
    (s.appendSymbol b r).cap = s.cap := rfl
@[simp] theorem State.appendSymbol_cfg (s : State) (b : Bool) (r : PosRec) :
    (s.appendSymbol b r).cfg = s.cfg := rfl
@[simp] theorem State.appendSymbol_acc (s : State) (b : Bool) (r : PosRec) :
    (s.appendSymbol b r).acc = { s.acc with bits := s.acc.bits.setIfInBounds s.acc.len b, recs := s.acc.recs.setIfInBounds s.acc.len r, len := s.acc.len + 1 } := rfl
@[simp] theorem State.appendSymbol_corr (s : State) (b : Bool) (r : PosRec) :
    (s.appendSymbol b r).corr = s.corr := rfl
@[simp] theorem State.appendSymbol_tx (s : State) (b : Bool) (r : PosRec) :
    (s.appendSymbol b r).tx = s.tx := rfl
@[simp] theorem State.appendSymbol_queue (s : State) (b : Bool) (r : PosRec) :
    (s.appendSymbol b r).queue = s.queue := rfl
@[simp] theorem State.appendSymbol_faults (s : State) (b : Bool) (r : PosRec) :
    (s.appendSymbol b r).faults = s.faults := rfl
@[simp] theorem State.appendSymbol_out (s : State) (b : Bool) (r : PosRec) :
    (s.appendSymbol b r).out = s.out := rfl
@[simp] theorem State.appendSymbol_result (s : State) (b : Bool) (r : PosRec) :
    (s.appendSymbol b r).result = s.result := rfl
@[simp] theorem State.appendSymbol_q (s : State) (b : Bool) (r : PosRec) :
    (s.appendSymbol b r).q = s.q := rfl
@[simp] theorem State.appendSymbol_port (s : State) (b : Bool) (r : PosRec) :
    (s.appendSymbol b r).port = s.port := rfl
@[simp] theorem State.appendSymbol_inbox (s : State) (b : Bool) (r : PosRec) :
    (s.appendSymbol b r).inbox = s.inbox := rfl
@[simp] theorem State.appendSymbol_params (s : State) (b : Bool) (r : PosRec) :
    (s.appendSymbol b r).params = s.params := rfl
@[simp] theorem State.appendSymbol_draws (s : State) (b : Bool) (r : PosRec) :
    (s.appendSymbol b r).draws = s.draws := rfl

@[simp] theorem State.countSample_cap (s : State) :
    s.countSample.cap = s.cap := rfl
@[simp] theorem State.countSample_cfg (s : State) :
    s.countSample.cfg = s.cfg := rfl
@[simp] theorem State.countSample_acc (s : State) :
    s.countSample.acc = { s.acc with nsamp := s.acc.nsamp + 1 } := rfl
@[simp] theorem State.countSample_corr (s : State) :
    s.countSample.corr = s.corr := rfl
@[simp] theorem State.countSample_tx (s : State) :
    s.countSample.tx = s.tx := rfl
@[simp] theorem State.countSample_queue (s : State) :
    s.countSample.queue = s.queue := rfl
@[simp] theorem State.countSample_faults (s : State) :
    s.countSample.faults = s.faults := rfl
@[simp] theorem State.countSample_out (s : State) :
    s.countSample.out = s.out := rfl
@[simp] theorem State.countSample_result (s : State) :
    s.countSample.result = s.result := rfl
@[simp] theorem State.countSample_q (s : State) :
    s.countSample.q = s.q := rfl
@[simp] theorem State.countSample_port (s : State) :
    s.countSample.port = s.port := rfl
@[simp] theorem State.countSample_inbox (s : State) :
    s.countSample.inbox = s.inbox := rfl
@[simp] theorem State.countSample_params (s : State) :
    s.countSample.params = s.params := rfl
@[simp] theorem State.countSample_draws (s : State) :
    s.countSample.draws = s.draws := rfl

@[simp] theorem State.radioDisable_cap (s : State) :
    s.radioDisable.cap = s.cap := rfl
@[simp] theorem State.radioDisable_cfg (s : State) :
    s.radioDisable.cfg = s.cfg := rfl
@[simp] theorem State.radioDisable_acc (s : State) :
    s.radioDisable.acc = s.acc := rfl
@[simp] theorem State.radioDisable_corr (s : State) :
    s.radioDisable.corr = s.corr := rfl
@[simp] theorem State.radioDisable_tx (s : State) :
    s.radioDisable.tx = { s.tx with radioOn := false } := rfl
@[simp] theorem State.radioDisable_queue (s : State) :
    s.radioDisable.queue = s.queue := rfl
@[simp] theorem State.radioDisable_faults (s : State) :
    s.radioDisable.faults = s.faults := rfl
@[simp] theorem State.radioDisable_out (s : State) :
    s.radioDisable.out = s.out ++ [.radioDisable] := rfl
@[simp] theorem State.radioDisable_result (s : State) :
    s.radioDisable.result = s.result := rfl
@[simp] theorem State.radioDisable_q (s : State) :
    s.radioDisable.q = s.q := rfl
@[simp] theorem State.radioDisable_port (s : State) :
    s.radioDisable.port = s.port := rfl
@[simp] theorem State.radioDisable_inbox (s : State) :
    s.radioDisable.inbox = s.inbox := rfl
@[simp] theorem State.radioDisable_params (s : State) :
    s.radioDisable.params = s.params := rfl
@[simp] theorem State.radioDisable_draws (s : State) :
    s.radioDisable.draws = s.draws := rfl

@[simp] theorem State.radioEnable_cap (s : State) :
    s.radioEnable.cap = s.cap := rfl
@[simp] theorem State.radioEnable_cfg (s : State) :
    s.radioEnable.cfg = s.cfg := rfl
@[simp] theorem State.radioEnable_acc (s : State) :
    s.radioEnable.acc = s.acc := rfl
@[simp] theorem State.radioEnable_corr (s : State) :
    s.radioEnable.corr = s.corr := rfl
@[simp] theorem State.radioEnable_tx (s : State) :
    s.radioEnable.tx = { s.tx with radioOn := true } := rfl
@[simp] theorem State.radioEnable_queue (s : State) :
    s.radioEnable.queue = s.queue := rfl
@[simp] theorem State.radioEnable_faults (s : State) :
    s.radioEnable.faults = s.faults := rfl
@[simp] theorem State.radioEnable_out (s : State) :
    s.radioEnable.out = s.out ++ [.radioEnable] := rfl
@[simp] theorem State.radioEnable_result (s : State) :
    s.radioEnable.result = s.result := rfl
@[simp] theorem State.radioEnable_q (s : State) :
    s.radioEnable.q = s.q := rfl
@[simp] theorem State.radioEnable_port (s : State) :
    s.radioEnable.port = s.port := rfl
@[simp] theorem State.radioEnable_inbox (s : State) :
    s.radioEnable.inbox = s.inbox := rfl
@[simp] theorem State.radioEnable_params (s : State) :
    s.radioEnable.params = s.params := rfl
@[simp] theorem State.radioEnable_draws (s : State) :
    s.radioEnable.draws = s.draws := rfl

@[simp] theorem State.setRxExcl_cap (s : State) (b : Bool) :
    (s.setRxExcl b).cap = s.cap := rfl
@[simp] theorem State.setRxExcl_cfg (s : State) (b : Bool) :
    (s.setRxExcl b).cfg = s.cfg := rfl
@[simp] theorem State.setRxExcl_acc (s : State) (b : Bool) :
    (s.setRxExcl b).acc = s.acc := rfl
@[simp] theorem State.setRxExcl_corr (s : State) (b : Bool) :
    (s.setRxExcl b).corr = s.corr := rfl
@[simp] theorem State.setRxExcl_tx (s : State) (b : Bool) :
    (s.setRxExcl b).tx = { s.tx with rxExcl := b } := rfl
@[simp] theorem State.setRxExcl_queue (s : State) (b : Bool) :
    (s.setRxExcl b).queue = s.queue := rfl
@[simp] theorem State.setRxExcl_faults (s : State) (b : Bool) :
    (s.setRxExcl b).faults = s.faults := rfl
@[simp] theorem State.setRxExcl_out (s : State) (b : Bool) :
    (s.setRxExcl b).out = s.out := rfl
@[simp] theorem State.setRxExcl_result (s : State) (b : Bool) :
    (s.setRxExcl b).result = s.result := rfl
@[simp] theorem State.setRxExcl_q (s : State) (b : Bool) :
    (s.setRxExcl b).q = s.q := rfl
@[simp] theorem State.setRxExcl_port (s : State) (b : Bool) :
    (s.setRxExcl b).port = s.port := rfl
@[simp] theorem State.setRxExcl_inbox (s : State) (b : Bool) :
    (s.setRxExcl b).inbox = s.inbox := rfl
@[simp] theorem State.setRxExcl_params (s : State) (b : Bool) :
    (s.setRxExcl b).params = s.params := rfl
@[simp] theorem State.setRxExcl_draws (s : State) (b : Bool) :
    (s.setRxExcl b).draws = s.draws := rfl

@[simp] theorem State.triggerFrame_cap (s : State) :
    s.triggerFrame.cap = s.cap := rfl
@[simp] theorem State.triggerFrame_cfg (s : State) :
    s.triggerFrame.cfg = s.cfg := rfl
@[simp] theorem State.triggerFrame_acc (s : State) :
    s.triggerFrame.acc = s.acc := rfl
@[simp] theorem State.triggerFrame_corr (s : State) :
    s.triggerFrame.corr = s.corr := rfl
@[simp] theorem State.triggerFrame_tx (s : State) :
    s.triggerFrame.tx = { s.tx with fstate := .inFlight } := rfl
@[simp] theorem State.triggerFrame_queue (s : State) :
    s.triggerFrame.queue = s.queue := rfl
@[simp] theorem State.triggerFrame_faults (s : State) :
    s.triggerFrame.faults = s.faults := rfl
@[simp] theorem State.triggerFrame_out (s : State) :
    s.triggerFrame.out = s.out ++ [.pulseTrain (s.tx.frm.duty.toList.take s.tx.frm.len) s.tx.frm.len] := rfl
@[simp] theorem State.triggerFrame_result (s : State) :
    s.triggerFrame.result = s.result := rfl
@[simp] theorem State.triggerFrame_q (s : State) :
    s.triggerFrame.q = s.q := rfl
@[simp] theorem State.triggerFrame_port (s : State) :
    s.triggerFrame.port = s.port := rfl
@[simp] theorem State.triggerFrame_inbox (s : State) :
    s.triggerFrame.inbox = s.inbox := rfl
@[simp] theorem State.triggerFrame_params (s : State) :
    s.triggerFrame.params = s.params := rfl
@[simp] theorem State.triggerFrame_draws (s : State) :
    s.triggerFrame.draws = s.draws := rfl

@[simp] theorem State.setCfg_cap (s : State) (r : CfgReg) (v : U32) :
    (s.setCfg r v).cap = s.cap := rfl
@[simp] theorem State.setCfg_cfg (s : State) (r : CfgReg) (v : U32) :
    (s.setCfg r v).cfg = s.cfg.set r v := rfl
@[simp] theorem State.setCfg_acc (s : State) (r : CfgReg) (v : U32) :
    (s.setCfg r v).acc = s.acc := rfl
@[simp] theorem State.setCfg_corr (s : State) (r : CfgReg) (v : U32) :
    (s.setCfg r v).corr = s.corr := rfl
@[simp] theorem State.setCfg_tx (s : State) (r : CfgReg) (v : U32) :
    (s.setCfg r v).tx = s.tx := rfl
@[simp] theorem State.setCfg_queue (s : State) (r : CfgReg) (v : U32) :
    (s.setCfg r v).queue = s.queue := rfl
@[simp] theorem State.setCfg_faults (s : State) (r : CfgReg) (v : U32) :
    (s.setCfg r v).faults = s.faults := rfl
@[simp] theorem State.setCfg_out (s : State) (r : CfgReg) (v : U32) :
    (s.setCfg r v).out = s.out := rfl
@[simp] theorem State.setCfg_result (s : State) (r : CfgReg) (v : U32) :
    (s.setCfg r v).result = s.result := rfl
@[simp] theorem State.setCfg_q (s : State) (r : CfgReg) (v : U32) :
    (s.setCfg r v).q = s.q := rfl
@[simp] theorem State.setCfg_port (s : State) (r : CfgReg) (v : U32) :
    (s.setCfg r v).port = s.port := rfl
@[simp] theorem State.setCfg_inbox (s : State) (r : CfgReg) (v : U32) :
    (s.setCfg r v).inbox = s.inbox := rfl
@[simp] theorem State.setCfg_params (s : State) (r : CfgReg) (v : U32) :
    (s.setCfg r v).params = s.params := rfl
@[simp] theorem State.setCfg_draws (s : State) (r : CfgReg) (v : U32) :
    (s.setCfg r v).draws = s.draws := rfl

@[simp] theorem State.enqueue_cap (s : State) (str : List Byte) :
    (s.enqueue str).cap = s.cap := rfl
@[simp] theorem State.enqueue_cfg (s : State) (str : List Byte) :
    (s.enqueue str).cfg = s.cfg := rfl
@[simp] theorem State.enqueue_acc (s : State) (str : List Byte) :
    (s.enqueue str).acc = s.acc := rfl
@[simp] theorem State.enqueue_corr (s : State) (str : List Byte) :
    (s.enqueue str).corr = s.corr := rfl
@[simp] theorem State.enqueue_tx (s : State) (str : List Byte) :
    (s.enqueue str).tx = s.tx := rfl
@[simp] theorem State.enqueue_queue (s : State) (str : List Byte) :
    (s.enqueue str).queue = { slots := s.queue.slots.setIfInBounds s.queue.count (some str), count := s.queue.count + 1 } := rfl
@[simp] theorem State.enqueue_faults (s : State) (str : List Byte) :
    (s.enqueue str).faults = s.faults := rfl
@[simp] theorem State.enqueue_out (s : State) (str : List Byte) :
    (s.enqueue str).out = s.out := rfl
@[simp] theorem State.enqueue_result (s : State) (str : List Byte) :
    (s.enqueue str).result = s.result := rfl
@[simp] theorem State.enqueue_q (s : State) (str : List Byte) :
    (s.enqueue str).q = s.q := rfl
@[simp] theorem State.enqueue_port (s : State) (str : List Byte) :
    (s.enqueue str).port = s.port := rfl
@[simp] theorem State.enqueue_inbox (s : State) (str : List Byte) :
    (s.enqueue str).inbox = s.inbox := rfl
@[simp] theorem State.enqueue_params (s : State) (str : List Byte) :
    (s.enqueue str).params = s.params := rfl
@[simp] theorem State.enqueue_draws (s : State) (str : List Byte) :
    (s.enqueue str).draws = s.draws := rfl

@[simp] theorem State.completeFrame_cap (s : State) :
    s.completeFrame.cap = s.cap := rfl
@[simp] theorem State.completeFrame_cfg (s : State) :
    s.completeFrame.cfg = s.cfg := rfl
@[simp] theorem State.completeFrame_acc (s : State) :
    s.completeFrame.acc = s.acc := rfl
@[simp] theorem State.completeFrame_corr (s : State) :
    s.completeFrame.corr = s.corr := rfl
@[simp] theorem State.completeFrame_tx (s : State) :
    s.completeFrame.tx = { s.tx with fstate := .idle, frm := { s.tx.frm with frameComplete := true, lastFrameMs := s.port.t } } := rfl
@[simp] theorem State.completeFrame_queue (s : State) :
    s.completeFrame.queue = s.queue := rfl
@[simp] theorem State.completeFrame_faults (s : State) :
    s.completeFrame.faults = s.faults := rfl
@[simp] theorem State.completeFrame_out (s : State) :
    s.completeFrame.out = s.out := rfl
@[simp] theorem State.completeFrame_result (s : State) :
    s.completeFrame.result = s.result := rfl
@[simp] theorem State.completeFrame_q (s : State) :
    s.completeFrame.q = s.q := rfl
@[simp] theorem State.completeFrame_port (s : State) :
    s.completeFrame.port = s.port := rfl
@[simp] theorem State.completeFrame_inbox (s : State) :
    s.completeFrame.inbox = s.inbox := rfl
@[simp] theorem State.completeFrame_params (s : State) :
    s.completeFrame.params = s.params := rfl
@[simp] theorem State.completeFrame_draws (s : State) :
    s.completeFrame.draws = s.draws := rfl

@[simp] theorem State.resetFields_cap (s : State) :
    s.resetFields.cap = Capture.reset s.params := rfl
@[simp] theorem State.resetFields_cfg (s : State) :
    s.resetFields.cfg = CfgRegs.reset s.params := rfl
@[simp] theorem State.resetFields_acc (s : State) :
    s.resetFields.acc = Acc.clear := rfl
@[simp] theorem State.resetFields_corr (s : State) :
    s.resetFields.corr = Corr.reset := rfl
@[simp] theorem State.resetFields_tx (s : State) :
    s.resetFields.tx = Sched.reset s.params := rfl
@[simp] theorem State.resetFields_queue (s : State) :
    s.resetFields.queue = TxQueue.reset := rfl
@[simp] theorem State.resetFields_faults (s : State) :
    s.resetFields.faults = FaultBits.reset := rfl
@[simp] theorem State.resetFields_out (s : State) :
    s.resetFields.out = s.out := rfl
@[simp] theorem State.resetFields_result (s : State) :
    s.resetFields.result = s.result := rfl
@[simp] theorem State.resetFields_q (s : State) :
    s.resetFields.q = s.q := rfl
@[simp] theorem State.resetFields_port (s : State) :
    s.resetFields.port = s.port := rfl
@[simp] theorem State.resetFields_inbox (s : State) :
    s.resetFields.inbox = s.inbox := rfl
@[simp] theorem State.resetFields_params (s : State) :
    s.resetFields.params = s.params := rfl
@[simp] theorem State.resetFields_draws (s : State) :
    s.resetFields.draws = s.draws := rfl

@[simp] theorem State.presentWord_cap (s : State) (w : OpWord) :
    (s.presentWord w).cap = s.cap := rfl
@[simp] theorem State.presentWord_cfg (s : State) (w : OpWord) :
    (s.presentWord w).cfg = s.cfg := rfl
@[simp] theorem State.presentWord_acc (s : State) (w : OpWord) :
    (s.presentWord w).acc = s.acc := rfl
@[simp] theorem State.presentWord_corr (s : State) (w : OpWord) :
    (s.presentWord w).corr = s.corr := rfl
@[simp] theorem State.presentWord_tx (s : State) (w : OpWord) :
    (s.presentWord w).tx = s.tx := rfl
@[simp] theorem State.presentWord_queue (s : State) (w : OpWord) :
    (s.presentWord w).queue = s.queue := rfl
@[simp] theorem State.presentWord_faults (s : State) (w : OpWord) :
    (s.presentWord w).faults = s.faults := rfl
@[simp] theorem State.presentWord_out (s : State) (w : OpWord) :
    (s.presentWord w).out = s.out := rfl
@[simp] theorem State.presentWord_result (s : State) (w : OpWord) :
    (s.presentWord w).result = s.result := rfl
@[simp] theorem State.presentWord_q (s : State) (w : OpWord) :
    (s.presentWord w).q = s.q := rfl
@[simp] theorem State.presentWord_port (s : State) (w : OpWord) :
    (s.presentWord w).port = s.port := rfl
@[simp] theorem State.presentWord_inbox (s : State) (w : OpWord) :
    (s.presentWord w).inbox = { word := w, ports := s.port } :: s.inbox := rfl
@[simp] theorem State.presentWord_params (s : State) (w : OpWord) :
    (s.presentWord w).params = s.params := rfl
@[simp] theorem State.presentWord_draws (s : State) (w : OpWord) :
    (s.presentWord w).draws = s.draws := rfl

@[simp] theorem State.raise_cap (s : State) (f : FaultBit) :
    (s.raise f).cap = s.cap := by cases f <;> rfl
@[simp] theorem State.raise_cfg (s : State) (f : FaultBit) :
    (s.raise f).cfg = s.cfg := by cases f <;> rfl
@[simp] theorem State.raise_acc (s : State) (f : FaultBit) :
    (s.raise f).acc = s.acc := by cases f <;> rfl
@[simp] theorem State.raise_corr (s : State) (f : FaultBit) :
    (s.raise f).corr = s.corr := by cases f <;> rfl
@[simp] theorem State.raise_tx (s : State) (f : FaultBit) :
    (s.raise f).tx = s.tx := by cases f <;> rfl
@[simp] theorem State.raise_queue (s : State) (f : FaultBit) :
    (s.raise f).queue = s.queue := by cases f <;> rfl
@[simp] theorem State.raise_out (s : State) (f : FaultBit) :
    (s.raise f).out = s.out := by cases f <;> rfl
@[simp] theorem State.raise_result (s : State) (f : FaultBit) :
    (s.raise f).result = s.result := by cases f <;> rfl
@[simp] theorem State.raise_q (s : State) (f : FaultBit) :
    (s.raise f).q = s.q := by cases f <;> rfl
@[simp] theorem State.raise_port (s : State) (f : FaultBit) :
    (s.raise f).port = s.port := by cases f <;> rfl
@[simp] theorem State.raise_inbox (s : State) (f : FaultBit) :
    (s.raise f).inbox = s.inbox := by cases f <;> rfl
@[simp] theorem State.raise_params (s : State) (f : FaultBit) :
    (s.raise f).params = s.params := by cases f <;> rfl
@[simp] theorem State.raise_draws (s : State) (f : FaultBit) :
    (s.raise f).draws = s.draws := by cases f <;> rfl

@[simp] theorem State.afterExt_cap (s : State) (c ref : Nat) :
    (s.afterExt c ref).cap = s.cap := by unfold State.afterExt; split <;> rfl
@[simp] theorem State.afterExt_cfg (s : State) (c ref : Nat) :
    (s.afterExt c ref).cfg = s.cfg := by unfold State.afterExt; split <;> rfl
@[simp] theorem State.afterExt_acc (s : State) (c ref : Nat) :
    (s.afterExt c ref).acc = s.acc := by unfold State.afterExt; split <;> rfl
@[simp] theorem State.afterExt_corr (s : State) (c ref : Nat) :
    (s.afterExt c ref).corr = s.corr := by unfold State.afterExt; split <;> rfl
@[simp] theorem State.afterExt_tx (s : State) (c ref : Nat) :
    (s.afterExt c ref).tx = s.tx := by unfold State.afterExt; split <;> rfl
@[simp] theorem State.afterExt_queue (s : State) (c ref : Nat) :
    (s.afterExt c ref).queue = s.queue := by unfold State.afterExt; split <;> rfl
@[simp] theorem State.afterExt_faults (s : State) (c ref : Nat) :
    (s.afterExt c ref).faults = s.faults := by unfold State.afterExt; split <;> rfl
@[simp] theorem State.afterExt_out (s : State) (c ref : Nat) :
    (s.afterExt c ref).out = s.out := by unfold State.afterExt; split <;> rfl
@[simp] theorem State.afterExt_result (s : State) (c ref : Nat) :
    (s.afterExt c ref).result = s.result := by unfold State.afterExt; split <;> rfl
@[simp] theorem State.afterExt_q (s : State) (c ref : Nat) :
    (s.afterExt c ref).q = s.q := by unfold State.afterExt; split <;> rfl
@[simp] theorem State.afterExt_port (s : State) (c ref : Nat) :
    (s.afterExt c ref).port = s.port := by unfold State.afterExt; split <;> rfl
@[simp] theorem State.afterExt_inbox (s : State) (c ref : Nat) :
    (s.afterExt c ref).inbox = s.inbox := by unfold State.afterExt; split <;> rfl
@[simp] theorem State.afterExt_params (s : State) (c ref : Nat) :
    (s.afterExt c ref).params = s.params := by unfold State.afterExt; split <;> rfl
@[simp] theorem State.afterExt_draws (s : State) (c ref : Nat) :
    (s.afterExt c ref).draws = if ref ≤ s.cap.ovf * s.params.timerMod + c then s.draws else s.draws + 1 := by unfold State.afterExt; split <;> rfl

@[simp] theorem State.advanceStor_cfg (s : State) :
    s.advanceStor.cfg = s.cfg := by unfold State.advanceStor; split <;> simp
@[simp] theorem State.advanceStor_acc (s : State) :
    s.advanceStor.acc = s.acc := by unfold State.advanceStor; split <;> simp
@[simp] theorem State.advanceStor_corr (s : State) :
    s.advanceStor.corr = s.corr := by unfold State.advanceStor; split <;> simp
@[simp] theorem State.advanceStor_tx (s : State) :
    s.advanceStor.tx = s.tx := by unfold State.advanceStor; split <;> simp
@[simp] theorem State.advanceStor_queue (s : State) :
    s.advanceStor.queue = s.queue := by unfold State.advanceStor; split <;> simp
@[simp] theorem State.advanceStor_out (s : State) :
    s.advanceStor.out = s.out := by unfold State.advanceStor; split <;> simp
@[simp] theorem State.advanceStor_result (s : State) :
    s.advanceStor.result = s.result := by unfold State.advanceStor; split <;> simp
@[simp] theorem State.advanceStor_q (s : State) :
    s.advanceStor.q = s.q := by unfold State.advanceStor; split <;> simp
@[simp] theorem State.advanceStor_port (s : State) :
    s.advanceStor.port = s.port := by unfold State.advanceStor; split <;> simp
@[simp] theorem State.advanceStor_inbox (s : State) :
    s.advanceStor.inbox = s.inbox := by unfold State.advanceStor; split <;> simp
@[simp] theorem State.advanceStor_params (s : State) :
    s.advanceStor.params = s.params := by unfold State.advanceStor; split <;> simp
@[simp] theorem State.advanceStor_draws (s : State) :
    s.advanceStor.draws = s.draws := by unfold State.advanceStor; split <;> simp

@[simp] theorem State.advanceIfWidth_cfg (s : State) :
    s.advanceIfWidth.cfg = s.cfg := by unfold State.advanceIfWidth; split <;> simp
@[simp] theorem State.advanceIfWidth_acc (s : State) :
    s.advanceIfWidth.acc = s.acc := by unfold State.advanceIfWidth; split <;> simp
@[simp] theorem State.advanceIfWidth_corr (s : State) :
    s.advanceIfWidth.corr = s.corr := by unfold State.advanceIfWidth; split <;> simp
@[simp] theorem State.advanceIfWidth_tx (s : State) :
    s.advanceIfWidth.tx = s.tx := by unfold State.advanceIfWidth; split <;> simp
@[simp] theorem State.advanceIfWidth_queue (s : State) :
    s.advanceIfWidth.queue = s.queue := by unfold State.advanceIfWidth; split <;> simp
@[simp] theorem State.advanceIfWidth_out (s : State) :
    s.advanceIfWidth.out = s.out := by unfold State.advanceIfWidth; split <;> simp
@[simp] theorem State.advanceIfWidth_result (s : State) :
    s.advanceIfWidth.result = s.result := by unfold State.advanceIfWidth; split <;> simp
@[simp] theorem State.advanceIfWidth_q (s : State) :
    s.advanceIfWidth.q = s.q := by unfold State.advanceIfWidth; split <;> simp
@[simp] theorem State.advanceIfWidth_port (s : State) :
    s.advanceIfWidth.port = s.port := by unfold State.advanceIfWidth; split <;> simp
@[simp] theorem State.advanceIfWidth_inbox (s : State) :
    s.advanceIfWidth.inbox = s.inbox := by unfold State.advanceIfWidth; split <;> simp
@[simp] theorem State.advanceIfWidth_params (s : State) :
    s.advanceIfWidth.params = s.params := by unfold State.advanceIfWidth; split <;> simp
@[simp] theorem State.advanceIfWidth_draws (s : State) :
    s.advanceIfWidth.draws = s.draws := by unfold State.advanceIfWidth; split <;> simp

@[simp] theorem State.consumeHead_cap (s : State) :
    s.consumeHead.cap = s.cap := by unfold State.consumeHead; split <;> rfl
@[simp] theorem State.consumeHead_cfg (s : State) :
    s.consumeHead.cfg = s.cfg := by unfold State.consumeHead; split <;> rfl
@[simp] theorem State.consumeHead_acc (s : State) :
    s.consumeHead.acc = s.acc := by unfold State.consumeHead; split <;> rfl
@[simp] theorem State.consumeHead_corr (s : State) :
    s.consumeHead.corr = s.corr := by unfold State.consumeHead; split <;> rfl
@[simp] theorem State.consumeHead_tx (s : State) :
    s.consumeHead.tx = s.tx := by unfold State.consumeHead; split <;> rfl
@[simp] theorem State.consumeHead_faults (s : State) :
    s.consumeHead.faults = s.faults := by unfold State.consumeHead; split <;> rfl
@[simp] theorem State.consumeHead_out (s : State) :
    s.consumeHead.out = s.out := by unfold State.consumeHead; split <;> rfl
@[simp] theorem State.consumeHead_result (s : State) :
    s.consumeHead.result = s.result := by unfold State.consumeHead; split <;> rfl
@[simp] theorem State.consumeHead_q (s : State) :
    s.consumeHead.q = s.q := by unfold State.consumeHead; split <;> rfl
@[simp] theorem State.consumeHead_port (s : State) :
    s.consumeHead.port = s.port := by unfold State.consumeHead; split <;> rfl
@[simp] theorem State.consumeHead_inbox (s : State) :
    s.consumeHead.inbox = s.inbox := by unfold State.consumeHead; split <;> rfl
@[simp] theorem State.consumeHead_params (s : State) :
    s.consumeHead.params = s.params := by unfold State.consumeHead; split <;> rfl
@[simp] theorem State.consumeHead_draws (s : State) :
    s.consumeHead.draws = s.draws := by unfold State.consumeHead; split <;> rfl

@[simp] theorem State.startBurst_cap (s : State) (ds : List U32) :
    (s.startBurst ds).cap = s.cap := by unfold State.startBurst; dsimp only; split <;> rfl
@[simp] theorem State.startBurst_cfg (s : State) (ds : List U32) :
    (s.startBurst ds).cfg = s.cfg := by unfold State.startBurst; dsimp only; split <;> rfl
@[simp] theorem State.startBurst_acc (s : State) (ds : List U32) :
    (s.startBurst ds).acc = s.acc := by unfold State.startBurst; dsimp only; split <;> rfl
@[simp] theorem State.startBurst_corr (s : State) (ds : List U32) :
    (s.startBurst ds).corr = s.corr := by unfold State.startBurst; dsimp only; split <;> rfl
@[simp] theorem State.startBurst_queue (s : State) (ds : List U32) :
    (s.startBurst ds).queue = s.queue := by unfold State.startBurst; dsimp only; split <;> rfl
@[simp] theorem State.startBurst_faults (s : State) (ds : List U32) :
    (s.startBurst ds).faults = s.faults := by unfold State.startBurst; dsimp only; split <;> rfl
@[simp] theorem State.startBurst_result (s : State) (ds : List U32) :
    (s.startBurst ds).result = s.result := by unfold State.startBurst; dsimp only; split <;> rfl
@[simp] theorem State.startBurst_q (s : State) (ds : List U32) :
    (s.startBurst ds).q = s.q := by unfold State.startBurst; dsimp only; split <;> rfl
@[simp] theorem State.startBurst_port (s : State) (ds : List U32) :
    (s.startBurst ds).port = s.port := by unfold State.startBurst; dsimp only; split <;> rfl
@[simp] theorem State.startBurst_inbox (s : State) (ds : List U32) :
    (s.startBurst ds).inbox = s.inbox := by unfold State.startBurst; dsimp only; split <;> rfl
@[simp] theorem State.startBurst_params (s : State) (ds : List U32) :
    (s.startBurst ds).params = s.params := by unfold State.startBurst; dsimp only; split <;> rfl
@[simp] theorem State.startBurst_draws (s : State) (ds : List U32) :
    (s.startBurst ds).draws = s.draws := by unfold State.startBurst; dsimp only; split <;> rfl

@[simp] theorem State.endBurst_cap (s : State) :
    s.endBurst.cap = s.cap := by unfold State.endBurst; dsimp only; split <;> rfl
@[simp] theorem State.endBurst_cfg (s : State) :
    s.endBurst.cfg = s.cfg := by unfold State.endBurst; dsimp only; split <;> rfl
@[simp] theorem State.endBurst_acc (s : State) :
    s.endBurst.acc = s.acc := by unfold State.endBurst; dsimp only; split <;> rfl
@[simp] theorem State.endBurst_corr (s : State) :
    s.endBurst.corr = s.corr := by unfold State.endBurst; dsimp only; split <;> rfl
@[simp] theorem State.endBurst_queue (s : State) :
    s.endBurst.queue = s.queue := by unfold State.endBurst; dsimp only; split <;> rfl
@[simp] theorem State.endBurst_faults (s : State) :
    s.endBurst.faults = s.faults := by unfold State.endBurst; dsimp only; split <;> rfl
@[simp] theorem State.endBurst_result (s : State) :
    s.endBurst.result = s.result := by unfold State.endBurst; dsimp only; split <;> rfl
@[simp] theorem State.endBurst_q (s : State) :
    s.endBurst.q = s.q := by unfold State.endBurst; dsimp only; split <;> rfl
@[simp] theorem State.endBurst_port (s : State) :
    s.endBurst.port = s.port := by unfold State.endBurst; dsimp only; split <;> rfl
@[simp] theorem State.endBurst_inbox (s : State) :
    s.endBurst.inbox = s.inbox := by unfold State.endBurst; dsimp only; split <;> rfl
@[simp] theorem State.endBurst_params (s : State) :
    s.endBurst.params = s.params := by unfold State.endBurst; dsimp only; split <;> rfl
@[simp] theorem State.endBurst_draws (s : State) :
    s.endBurst.draws = s.draws := by unfold State.endBurst; dsimp only; split <;> rfl

@[simp] theorem State.applyRxMode_cap (s : State) :
    s.applyRxMode.cap = s.cap := by unfold State.applyRxMode; split_ifs <;> rfl
@[simp] theorem State.applyRxMode_cfg (s : State) :
    s.applyRxMode.cfg = s.cfg := by unfold State.applyRxMode; split_ifs <;> rfl
@[simp] theorem State.applyRxMode_acc (s : State) :
    s.applyRxMode.acc = s.acc := by unfold State.applyRxMode; split_ifs <;> rfl
@[simp] theorem State.applyRxMode_corr (s : State) :
    s.applyRxMode.corr = s.corr := by unfold State.applyRxMode; split_ifs <;> rfl
@[simp] theorem State.applyRxMode_queue (s : State) :
    s.applyRxMode.queue = s.queue := by unfold State.applyRxMode; split_ifs <;> rfl
@[simp] theorem State.applyRxMode_faults (s : State) :
    s.applyRxMode.faults = s.faults := by unfold State.applyRxMode; split_ifs <;> rfl
@[simp] theorem State.applyRxMode_result (s : State) :
    s.applyRxMode.result = s.result := by unfold State.applyRxMode; split_ifs <;> rfl
@[simp] theorem State.applyRxMode_q (s : State) :
    s.applyRxMode.q = s.q := by unfold State.applyRxMode; split_ifs <;> rfl
@[simp] theorem State.applyRxMode_port (s : State) :
    s.applyRxMode.port = s.port := by unfold State.applyRxMode; split_ifs <;> rfl
@[simp] theorem State.applyRxMode_inbox (s : State) :
    s.applyRxMode.inbox = s.inbox := by unfold State.applyRxMode; split_ifs <;> rfl
@[simp] theorem State.applyRxMode_params (s : State) :
    s.applyRxMode.params = s.params := by unfold State.applyRxMode; split_ifs <;> rfl
@[simp] theorem State.applyRxMode_draws (s : State) :
    s.applyRxMode.draws = s.draws := by unfold State.applyRxMode; split_ifs <;> rfl

end Sys2Proof.Machine
end

