-- ==== Sys2Proof/Laws/Ops.lean ====
section
/-! SUPPORT. For each shared operation, one lemma that says once everything it can do: as one record update where it
has one form, as the list of its cases where it has several. Later proofs cite these and unfold nothing. -/

namespace Sys2Proof.Machine

/-! ### Ring arithmetic -/

theorem ringDist_lt {n : Nat} (hn : 0 < n) (a b : Nat) : ringDist n a b < n := Nat.mod_lt _ hn

/-- In a ring of capacity `n`, the distance of two slots is the difference, wrapped once if it is negative. -/
theorem ringDist_eq {n a b : Nat} (ha : a < n) (hb : b < n) :
    ringDist n a b = if a ≤ b then b - a else b + n - a := by
  unfold ringDist
  rw [Nat.mod_eq_of_lt ha]
  split
  · rw [show b + (n - a) = (b - a) + n by omega, Nat.add_mod_right, Nat.mod_eq_of_lt (by omega)]
  · rw [show b + (n - a) = b + n - a by omega, Nat.mod_eq_of_lt (by omega)]

/-- A step of `k` from `a`, less than a whole turn, wraps at most once. -/
theorem ringStep_eq {n a k : Nat} (ha : a < n) (hk : k < n) :
    (a + k) % n = if a + k < n then a + k else a + k - n := by
  split
  · exact Nat.mod_eq_of_lt ‹_›
  · rw [Nat.mod_eq_sub_mod (by omega), Nat.mod_eq_of_lt (by omega)]

theorem ringDist_step {n a k : Nat} (ha : a < n) (hk : k < n) : ringDist n a ((a + k) % n) = k := by
  rw [ringDist_eq ha (Nat.mod_lt _ (by omega)), ringStep_eq ha hk]
  split_ifs <;> omega

theorem ringStep_dist {n a b : Nat} (ha : a < n) (hb : b < n) : (a + ringDist n a b) % n = b := by
  have h := ringDist_lt (by omega : 0 < n) a b
  rw [ringStep_eq ha h, ringDist_eq ha hb]
  split_ifs <;> omega

theorem nextIdx_eq {n i : Nat} (hi : i < n) : nextIdx n i = if i + 1 = n then 0 else i + 1 := by
  unfold nextIdx
  split
  · simp [*]
  · exact Nat.mod_eq_of_lt (by omega)

@[simp] theorem length_windowSlots (n a b : Nat) : (windowSlots n a b).length = ringDist n a b := by
  simp [windowSlots]

/-- The window holds the slots nearer to its start than its end is (10_state.md R28). -/
theorem mem_windowSlots {n a b i : Nat} (ha : a < n) :
    i ∈ windowSlots n a b ↔ i < n ∧ ringDist n a i < ringDist n a b := by
  have hn : 0 < n := by omega
  simp only [windowSlots, List.mem_map, List.mem_range]
  constructor
  · rintro ⟨k, hk, rfl⟩
    have hk' : k < n := lt_trans hk (ringDist_lt hn a b)
    exact ⟨Nat.mod_lt _ hn, by rwa [ringDist_step ha hk']⟩
  · rintro ⟨hi, hd⟩
    exact ⟨ringDist n a i, hd, ringStep_dist ha hi⟩

/-! ### The sample ring -/

/-- Reading the ring after a write of one slot: the written slot if it exists, else what was there. -/
theorem getD_set_ring (r : List Sample) (i j : Nat) (x : Sample) :
    (r.set i x).getD j Sample.clean = if i = j ∧ i < r.length then x else r.getD j Sample.clean := by
  by_cases h : i = j
  · subst h
    by_cases hl : i < r.length <;> simp [hl]
  · simp [h, List.getElem?_set_ne h]

/-- Clearing slots in turn clears those slots and no other; a slot outside the ring reads as clean throughout. -/
theorem getD_clear_ring (w : List Nat) (r : List Sample) (j : Nat) :
    (w.foldl (fun r i => r.set i Sample.clean) r).getD j Sample.clean =
      if j ∈ w then Sample.clean else r.getD j Sample.clean := by
  induction w generalizing r with
  | nil => simp
  | cons i w ih =>
    rw [List.foldl_cons, ih, getD_set_ring]
    by_cases hw : j ∈ w
    · simp [hw]
    · by_cases hij : i = j
      · subst hij
        by_cases hl : i < r.length
        · simp [hl]
        · simp [hl]
      · simp [hw, hij, Ne.symm hij]

@[simp] theorem length_clear_ring (w : List Nat) (r : List Sample) :
    (w.foldl (fun r i => r.set i Sample.clean) r).length = r.length := by
  induction w generalizing r with
  | nil => rfl
  | cons i w ih => rw [List.foldl_cons, ih, List.length_set]

theorem slot_clearWindow (s : State) (w : List Nat) (j : Nat) :
    (s.clearWindow w).slot j = if j ∈ w then Sample.clean else s.slot j := by
  simp only [State.slot, State.clearWindow_cap, getD_clear_ring]

theorem slot_storePeriod (s : State) (p j : Nat) :
    (s.storePeriod p).slot j =
      if s.cap.storIdx = j ∧ s.cap.storIdx < s.cap.ring.length then { s.slot s.cap.storIdx with period := p }
      else s.slot j := by
  simp only [State.slot, State.storePeriod_cap, getD_set_ring]

/-- Storing a period leaves the width-recorded mark of every slot as it was. -/
@[simp] theorem slot_storePeriod_valid (s : State) (p j : Nat) :
    ((s.storePeriod p).slot j).valid = (s.slot j).valid := by
  rw [slot_storePeriod]
  split
  · next h => rw [← h.1]
  · rfl

/-! ### Capture -/

theorem afterExt_eq (s : State) (c ref : Nat) : s.afterExt c ref =
    { s with draws := if ref ≤ s.cap.ovf * s.params.timerMod + c then s.draws else s.draws + 1 } := by
  unfold State.afterExt
  split <;> rfl

theorem advanceStor_eq (s : State) : s.advanceStor = { s with
    cap := { s.cap with
      storIdx := if nextIdx s.params.sampleCap s.cap.storIdx = s.cap.procIdx then s.cap.storIdx
        else nextIdx s.params.sampleCap s.cap.storIdx }
    faults := if nextIdx s.params.sampleCap s.cap.storIdx = s.cap.procIdx then { s.faults with ovr := true }
      else s.faults } := by
  unfold State.advanceStor
  split <;> rfl

/-- The advance after a stored period: one slot on if the slot has a width and the ring has room, `FAULT_OVR` if it
has a width and the ring is full, nothing if it has no width (R134). -/
theorem advanceIfWidth_eq (s : State) : s.advanceIfWidth = { s with
    cap := { s.cap with
      storIdx := if (s.slot s.cap.storIdx).valid = true ∧
          nextIdx s.params.sampleCap s.cap.storIdx ≠ s.cap.procIdx
        then nextIdx s.params.sampleCap s.cap.storIdx else s.cap.storIdx }
    faults := if (s.slot s.cap.storIdx).valid = true ∧
        nextIdx s.params.sampleCap s.cap.storIdx = s.cap.procIdx
      then { s.faults with ovr := true } else s.faults } := by
  unfold State.advanceIfWidth
  by_cases hv : (s.slot s.cap.storIdx).valid = true
  · by_cases hn : nextIdx s.params.sampleCap s.cap.storIdx = s.cap.procIdx <;> simp [hv, hn, advanceStor_eq]
  · simp [hv]

/-! ### Transmit side -/

theorem consumeHead_eq {s : State} (h : 0 < s.queue.count) : s.consumeHead = { s with queue := {
    slots := #v[s.queue.slots[1], s.queue.slots[2], s.queue.slots[3], s.queue.slots[4], none]
    count := s.queue.count - 1 } } := by
  simp [State.consumeHead, Nat.pos_iff_ne_zero.mp h]

theorem startBurst_eq (s : State) (ds : List U32) : s.startBurst ds = { s with
    tx := {
      bstate := .active
      fstate := .idle
      frm := startFrame s.params s.tx.frm ds
      txActive := true
      rxExcl := if s.cfg.rxMode = RxMode.offDuringTx then true else s.tx.rxExcl
      radioOn := if s.cfg.rxMode = RxMode.offDuringTx then false else s.tx.radioOn }
    out := if s.cfg.rxMode = RxMode.offDuringTx then s.out ++ [.radioDisable] else s.out } := by
  unfold State.startBurst
  dsimp only
  split <;> rfl

theorem endBurst_eq (s : State) : s.endBurst = { s with
    tx := {
      bstate := .idle
      fstate := s.tx.fstate
      frm := { s.tx.frm with burstComplete := true }
      txActive := false
      rxExcl := false
      radioOn := if s.tx.rxExcl = true then true else s.tx.radioOn }
    out := if s.tx.rxExcl = true then s.out ++ [.radioEnable] else s.out } := by
  unfold State.endBurst
  dsimp only
  split
  · rfl
  · next h => simp only [Bool.not_eq_true] at h; simp [h]

/-- The receive mode applied at once (45_config.md R253). -/
theorem applyRxMode_eq (s : State) : s.applyRxMode = { s with
    tx := { s.tx with
      radioOn := if s.cfg.rxMode = RxMode.off ∨ (s.cfg.rxMode ≠ RxMode.alwaysOn ∧ s.tx.txActive = true) then false
        else true
      rxExcl := if s.cfg.rxMode ≠ RxMode.off ∧ s.cfg.rxMode ≠ RxMode.alwaysOn ∧ s.tx.txActive = true then true
        else false }
    out := s.out ++ [if s.cfg.rxMode = RxMode.off ∨ (s.cfg.rxMode ≠ RxMode.alwaysOn ∧ s.tx.txActive = true)
      then .radioDisable else .radioEnable] } := by
  unfold State.applyRxMode State.radioDisable State.radioEnable State.setRxExcl State.emit
  by_cases h0 : s.cfg.rxMode = RxMode.off
  · simp [h0]
  · by_cases h1 : s.cfg.rxMode = RxMode.alwaysOn
    · simp [h1]
    · by_cases h2 : s.tx.txActive = true <;> simp [h0, h1, h2]

/-- Preparation succeeds exactly on strings of `'0'` and `'1'` (43_scheduler.md R200). -/
theorem dutiesOf_eq_some (cfg : CfgRegs) (str : List Byte) :
    (∀ b ∈ str, b = 0x30#8 ∨ b = 0x31#8) →
    dutiesOf cfg str = some (str.map fun b =>
      if b = 0x31#8 then (if cfg.invertLogic = 0#32 then cfg.txLong else cfg.txShort)
      else (if cfg.invertLogic = 0#32 then cfg.txShort else cfg.txLong)) := by
  induction str with
  | nil => intro _; rfl
  | cons b bs ih =>
    intro h
    have hb := h b (by simp)
    have hd := ih fun x hx => h x (by simp [hx])
    rcases hb with rfl | rfl <;> simp [dutiesOf, dutyOf, hd]

theorem dutiesOf_eq_none (cfg : CfgRegs) (str : List Byte) :
    (∃ b ∈ str, b ≠ 0x30#8 ∧ b ≠ 0x31#8) → dutiesOf cfg str = none := by
  induction str with
  | nil => rintro ⟨b, hb, -⟩; simp at hb
  | cons c cs ih =>
    rintro ⟨b, hb, h0, h1⟩
    rcases List.mem_cons.mp hb with rfl | hb
    · simp [dutiesOf, dutyOf, h0, h1]
    · rw [dutiesOf, ih ⟨b, hb, h0, h1⟩]
      cases dutyOf cfg c <;> rfl

theorem getElem_dutyBuffer (ds : List U32) (j : Nat) (h : j < Config.dutyCap) :
    (dutyBuffer ds)[j] = ds.getD j 0#32 := by
  simp only [dutyBuffer, Vector.getElem_mk, List.getElem_toArray, List.getElem_take]
  by_cases hj : j < ds.length
  · simp [List.getElem_append_left hj, hj]
  · simp [List.getElem_append_right (Nat.le_of_not_lt hj), hj]

/-! ### Matcher and word builder -/

/-- What `submit_core` leaves: only the matcher and the log change (42_matcher.md R181). -/
theorem submitCore_frame (k : Candidate) (t : U32) (s : State) :
    (submitCore k t s).1 = { s with corr := (submitCore k t s).1.corr, out := (submitCore k t s).1.out } := by
  unfold submitCore
  dsimp only
  repeat' split
  all_goals rfl

/-- `submit_core` in its four outcomes: dropped, stored without a vote won, stored with a repeat, confirmed. -/
theorem submitCore_cases (k : Candidate) (t : U32) (s : State) :
    (lengthOk s.cfg k.length = false ∧ submitCore k t s = (s, Code.dropped)) ∨
    (lengthOk s.cfg k.length = true ∧ (s.inserted k t).scan s.cfg.matchThresh.toNat = none ∧
      submitCore k t s =
        ({ s with corr := s.inserted k t }, Code.stored ||| if s.isStale t then Code.staleReset else 0#8)) ∨
    (lengthOk s.cfg k.length = true ∧ ∃ f a, (s.inserted k t).scan s.cfg.matchThresh.toNat = some (f, a) ∧
      (((s.inserted k t).lc = some f ∧ submitCore k t s =
        ({ s with corr := s.inserted k t }, Code.stored ||| if s.isStale t then Code.staleReset else 0#8)) ∨
       ((s.inserted k t).lc ≠ some f ∧ submitCore k t s =
        ({ s with corr := { s.inserted k t with lc := some f }, out := s.out ++ [confirmOf a] },
          Code.confirmed ||| if s.isStale t then Code.staleReset else 0#8)))) := by
  unfold submitCore
  cases hl : lengthOk s.cfg k.length
  · simp
  · right
    cases hs : (s.inserted k t).scan s.cfg.matchThresh.toNat with
    | none => left; simp [hs]
    | some fa =>
      right
      obtain ⟨f, a⟩ := fa
      refine ⟨rfl, f, a, rfl, ?_⟩
      by_cases hf : (s.inserted k t).lc = some f
      · left; simp [hs, hf]
      · right; simp [hs, hf, State.emit]

/-- A slot the scan answers is occupied, and won its vote (42_matcher.md R185, R186). -/
theorem scan_some {c : Corr} {thresh : Nat} {f : Fin Config.nCorr} {a : Candidate}
    (h : c.scan thresh = some (f, a)) : c.slots[f.val] = some a ∧ c.wins thresh f a = true := by
  obtain ⟨l₁, j, l₂, -, hj, -⟩ := List.findSome?_eq_some_iff.mp h
  cases hs : c.slots[j.val] with
  | none => simp [hs] at hj
  | some b =>
    simp only [hs] at hj
    split at hj
    · next hw =>
      simp only [Option.some.injEq, Prod.mk.injEq] at hj
      obtain ⟨rfl, rfl⟩ := hj
      exact ⟨hs, hw⟩
    · simp at hj

theorem finalize_frame (t : U32) (s : State) : finalize t s =
    { s with acc := Acc.clear, corr := (finalize t s).corr, out := (finalize t s).out } := by
  unfold finalize
  conv_lhs => rw [submitCore_frame]

/-- The symbol part of the per-sample step in its three cases (41_wordbuilder.md R154, R155, R160). -/
theorem takeSymbol_cases (pm : Nat) (s : State) (x : Sample) :
    (s.isSyncSample = true ∧ takeSymbol pm s x = s) ∨
    (s.isSyncSample = false ∧ s.acc.len = Config.symCap ∧ takeSymbol pm s x = s.raise .wovf) ∨
    (s.isSyncSample = false ∧ s.acc.len ≠ Config.symCap ∧ takeSymbol pm s x =
      s.appendSymbol (symbolOf (classify x.width pm) s.cfg.invertLogic)
        { cls := classify x.width pm, width := x.width
          period := recordedPeriod s.cfg.timeoutUs pm x.period }) := by
  unfold takeSymbol
  cases h : s.isSyncSample
  · by_cases hl : s.acc.len = Config.symCap <;> simp [hl]
  · simp

theorem takeSymbol_frame (pm : Nat) (s : State) (x : Sample) : takeSymbol pm s x =
    { s with acc := (takeSymbol pm s x).acc, faults := (takeSymbol pm s x).faults } := by
  rcases takeSymbol_cases pm s x with ⟨-, h⟩ | ⟨-, -, h⟩ | ⟨-, -, h⟩ <;> rw [h] <;> rfl

/-- A sample changes only the accumulator, the matcher, the fault bits and the log. -/
theorem processSample_frame (pm : Nat) (t : U32) (s : State) (x : Sample) : processSample pm t s x =
    { s with
      acc := (processSample pm t s x).acc
      corr := (processSample pm t s x).corr
      faults := (processSample pm t s x).faults
      out := (processSample pm t s x).out } := by
  unfold processSample
  dsimp only
  split
  · rw [finalize_frame, takeSymbol_frame]; rfl
  · rw [takeSymbol_frame]; rfl

/-- So does a whole window of samples. -/
theorem processWindow_frame (pm : Nat) (t : U32) (xs : List Sample) (s : State) :
    xs.foldl (processSample pm t) s =
      { s with
        acc := (xs.foldl (processSample pm t) s).acc
        corr := (xs.foldl (processSample pm t) s).corr
        faults := (xs.foldl (processSample pm t) s).faults
        out := (xs.foldl (processSample pm t) s).out } := by
  induction xs generalizing s with
  | nil => rfl
  | cons x xs ih =>
    rw [List.foldl_cons, ih, processSample_frame]

/-! ### A run of data samples -/

/-- A pulse is short exactly when twice its width is below the mode (41_wordbuilder.md R150). -/
theorem classify_eq {pm : Nat} (h : 0 < pm) (w : Nat) : classify w pm = if 2 * w < pm then .short else .long := by
  have e : w * 100 / pm < 50 ↔ 2 * w < pm := by rw [Nat.div_lt_iff_lt_mul h]; omega
  simp only [classify, e]

/-- Storing behind the first `n` elements and taking one more appends the element, if there is room. -/
theorem take_setIfInBounds {α : Type} {m n : Nat} (v : Vector α m) (a : α) (h : n < m) :
    (v.setIfInBounds n a).toList.take (n + 1) = v.toList.take n ++ [a] := by
  rw [Vector.toList_setIfInBounds, List.take_add_one, List.take_set_of_le (Nat.le_refl n)]
  simp [h]

/-- The record that a data sample adds to the word (41_wordbuilder.md R154, R156). -/
def recordOf (timeoutUs : U32) (pm : Nat) (x : Sample) : PosRec :=
  { cls := classify x.width pm, width := x.width, period := recordedPeriod timeoutUs pm x.period }

/-- A sample that is no gap is taken and counted (41_wordbuilder.md R154, R157). -/
theorem processSample_of_not_gap {pm : Nat} {t : U32} {s : State} {x : Sample} (h : 10 * x.period ≤ 13 * pm) :
    processSample pm t s x = (takeSymbol pm s x).countSample := by
  have hg : isGap pm x.period = false := by simp [isGap, Config.gapNum, Config.gapDen]; omega
  simp [processSample, hg]

/-- A gap sample ends the word it belongs to (41_wordbuilder.md R157). -/
theorem processSample_of_gap {pm : Nat} {t : U32} {s : State} {x : Sample} (h : 13 * pm < 10 * x.period)
    (hl : 0 < (takeSymbol pm s x).acc.len) :
    processSample pm t s x = finalize t (takeSymbol pm s x).countSample := by
  have hg : isGap pm x.period = true := by simp [isGap, Config.gapNum, Config.gapDen]; omega
  simp [processSample, hg, hl]

/-- The symbols of the word, in order. -/
def Acc.symbols (a : Acc) : List Bool := a.bits.toList.take a.len

/-- The records of the word's symbols, in order. -/
def Acc.records (a : Acc) : List PosRec := a.recs.toList.take a.len

/-- `t` is `s` with the data samples `xs` taken into its word: each symbol and record appended while there is room, and
`FAULT_WOVF` raised by one that does not fit (41_wordbuilder.md R154, R160). -/
structure Taken (pm : Nat) (xs : List Sample) (s t : State) : Prop where
  frame : t = { s with acc := t.acc, faults := t.faults }
  len : t.acc.len = min 65 (s.acc.len + xs.length)
  symbols : t.acc.symbols =
    (s.acc.symbols ++ xs.map fun x => symbolOf (classify x.width pm) s.cfg.invertLogic).take 65
  records : t.acc.records = (s.acc.records ++ xs.map (recordOf s.cfg.timeoutUs pm)).take 65
  faults : t.faults = if 65 < s.acc.len + xs.length then { s.faults with wovf := true } else s.faults

/-- The data samples taken, and no other sample counted. -/
structure Absorbed (pm : Nat) (xs : List Sample) (s t : State) : Prop extends Taken pm xs s t where
  nsamp : t.acc.nsamp = s.acc.nsamp + xs.length

/-- One data sample. -/
theorem absorbed_one {pm : Nat} {s : State} {x : Sample} (hs : s.isSyncSample = false) (hl : s.acc.len ≤ 65) :
    Absorbed pm [x] s (takeSymbol pm s x).countSample := by
  rcases takeSymbol_cases pm s x with ⟨h, -⟩ | ⟨-, hf, h⟩ | ⟨-, hf, h⟩
  · simp [hs] at h
  · rw [h]
    have hf : s.acc.len = 65 := hf
    refine ⟨⟨rfl, ?_, ?_, ?_, ?_⟩, rfl⟩ <;> simp [hf, State.countSample, State.raise, Acc.symbols, Acc.records]
  · rw [h]
    have hf : s.acc.len < 65 := Nat.lt_of_le_of_ne hl hf
    refine ⟨⟨rfl, ?_, ?_, ?_, ?_⟩, rfl⟩
    · show s.acc.len + 1 = _; simp; omega
    · show ((s.acc.bits.setIfInBounds s.acc.len _).toList.take (s.acc.len + 1)) = _
      rw [take_setIfInBounds _ _ hf]
      exact (List.take_of_length_le (by simp; omega)).symm
    · show ((s.acc.recs.setIfInBounds s.acc.len _).toList.take (s.acc.len + 1)) = _
      rw [take_setIfInBounds _ _ hf]
      exact (List.take_of_length_le (by simp; omega)).symm
    · rw [if_neg (by simp; omega)]; rfl

/-- Cutting a list off twice at one length is cutting it off once. -/
theorem take_append_take {α : Type} (n : Nat) (a b c : List α) :
    ((a ++ b).take n ++ c).take n = (a ++ (b ++ c)).take n := by
  rw [← List.append_assoc, List.take_append (l₁ := (a ++ b).take n), List.take_append (l₁ := a ++ b), List.take_take,
    Nat.min_self]
  rcases Nat.le_total (a ++ b).length n with h | h
  · rw [List.take_of_length_le h]
  · rw [List.length_take_of_le h, Nat.sub_self, Nat.sub_eq_zero_of_le h]

/-- Two runs of data samples, one after the other. -/
theorem Absorbed.trans {pm : Nat} {xs ys : List Sample} {s t u : State} (h1 : Absorbed pm xs s t)
    (h2 : Absorbed pm ys t u) : Absorbed pm (xs ++ ys) s u := by
  have hc : t.cfg = s.cfg := by rw [h1.frame]
  refine ⟨⟨?_, ?_, ?_, ?_, ?_⟩, by rw [h2.nsamp, h1.nsamp, List.length_append, Nat.add_assoc]⟩
  · rw [h2.frame, h1.frame]
  · rw [h2.len, h1.len, List.length_append]; omega
  · rw [h2.symbols, h1.symbols, hc, take_append_take, List.map_append]
  · rw [h2.records, h1.records, hc, take_append_take, List.map_append]
  · rw [h2.faults, h1.len, h1.faults, List.length_append]
    split_ifs <;> first | rfl | omega

/-- A run of data samples with no gap. -/
theorem absorbed_window {pm : Nat} {t : U32} {xs : List Sample} (hx : ∀ x ∈ xs, 10 * x.period ≤ 13 * pm) :
    ∀ {s : State}, s.acc.len ≤ 65 → (s.acc.nsamp = 0 → s.cfg.ignoreSync ≠ 1#32) →
      Absorbed pm xs s (xs.foldl (processSample pm t) s) := by
  induction xs with
  | nil =>
    intro s hl _
    refine ⟨⟨rfl, ?_, ?_, ?_, ?_⟩, rfl⟩ <;> simp [Acc.symbols, Acc.records] <;> omega
  | cons x xs ih =>
    intro s hl hs
    have h1 := absorbed_one (pm := pm) (x := x) (by simpa [State.isSyncSample] using hs) hl
    rw [List.foldl_cons, processSample_of_not_gap (hx x (by simp))]
    have hn := h1.nsamp
    exact h1.trans (ih (fun y hy => hx y (by simp [hy])) (by rw [h1.len]; omega) (fun h => absurd h (by rw [hn]; simp)))

/-- A synchronization sample is counted and nothing else, be it a gap or not (41_wordbuilder.md R155, R158). -/
theorem processSample_sync {pm : Nat} {t : U32} {s : State} {x : Sample} (hs : s.isSyncSample = true)
    (hl : s.acc.len = 0) : processSample pm t s x = s.countSample := by
  rcases takeSymbol_cases pm s x with ⟨-, h⟩ | ⟨h, -⟩ | ⟨h, -⟩
  · simp [processSample, h, hl]
  · simp [hs] at h
  · simp [hs] at h

/-- The data samples of a run: all but the first when that is the synchronization sample of its word (R155). -/
def State.dataOf (s : State) (xs : List Sample) : List Sample := if s.isSyncSample then xs.tail else xs

/-- A run of samples is its data samples, after a synchronization sample is counted (41_wordbuilder.md R155). -/
theorem foldl_dataOf {pm : Nat} {t : U32} {s : State} (hn : s.acc.len ≤ s.acc.nsamp)
    {xs : List Sample} (hx : xs ≠ []) : ∃ u,
      xs.foldl (processSample pm t) s = (s.dataOf xs).foldl (processSample pm t) u ∧
      u = { s with acc := { s.acc with nsamp := u.acc.nsamp } } ∧
      (u.acc.nsamp = 0 → u.cfg.ignoreSync ≠ 1#32) ∧
      u.acc.nsamp + (s.dataOf xs).length = s.acc.nsamp + xs.length := by
  obtain ⟨x, ys, rfl⟩ := List.exists_cons_of_ne_nil hx
  unfold State.dataOf
  by_cases hs : s.isSyncSample = true
  · have h0 : s.acc.nsamp = 0 := by simp only [State.isSyncSample, Bool.and_eq_true, beq_iff_eq] at hs; exact hs.1
    refine ⟨s.countSample, ?_, rfl, fun h => absurd h (by simp [State.countSample]), ?_⟩
    · rw [if_pos hs, List.foldl_cons, processSample_sync hs (by omega)]; rfl
    · rw [if_pos hs]; simp [State.countSample]; omega
  · refine ⟨s, by rw [if_neg hs], rfl, ?_, by rw [if_neg hs]⟩
    simpa [State.isSyncSample] using hs

/-- What was counted before does not show in what is taken. -/
theorem Absorbed.taken {pm : Nat} {xs : List Sample} {s u v : State}
    (hu : u = { s with acc := { s.acc with nsamp := u.acc.nsamp } }) (A : Absorbed pm xs u v) : Taken pm xs s v := by
  have e1 : u.acc.len = s.acc.len := by rw [hu]
  have e2 : u.acc.symbols = s.acc.symbols := by rw [hu]; rfl
  have e3 : u.acc.records = s.acc.records := by rw [hu]; rfl
  have e4 : u.cfg = s.cfg := by rw [hu]
  have e5 : u.faults = s.faults := by rw [hu]
  refine ⟨?_, ?_, ?_, ?_, ?_⟩
  · rw [A.frame, hu]
  · rw [A.len, e1]
  · rw [A.symbols, e2, e4]
  · rw [A.records, e3, e4]
  · rw [A.faults, e1, e5]

/-- A run of samples whose data samples are no gaps is counted, its data samples taken (41_wordbuilder.md R163). -/
theorem taken_of_no_gap {pm : Nat} {t : U32} {s : State} (h65 : s.acc.len ≤ 65) (hn : s.acc.len ≤ s.acc.nsamp)
    {xs : List Sample} (hg : ∀ x ∈ s.dataOf xs, 10 * x.period ≤ 13 * pm) :
    Taken pm (s.dataOf xs) s (xs.foldl (processSample pm t) s) ∧
      (xs.foldl (processSample pm t) s).acc.nsamp = s.acc.nsamp + xs.length := by
  by_cases hx : xs = []
  · subst hx
    have : s.dataOf [] = [] := by simp [State.dataOf]
    rw [this]
    refine ⟨⟨rfl, ?_, ?_, ?_, ?_⟩, rfl⟩ <;> simp [Acc.symbols, Acc.records] <;> omega
  · obtain ⟨u, e1, e2, e3, e4⟩ := foldl_dataOf (pm := pm) (t := t) hn hx
    have A := absorbed_window (t := t) hg (s := u) (by rw [e2]; exact h65) e3
    rw [← e1] at A
    exact ⟨A.taken e2, by rw [A.nsamp]; exact e4⟩

/-- A run of samples whose last data sample is its only gap finalizes the word with its data samples taken
(41_wordbuilder.md R157, R159). -/
theorem taken_of_final_gap {pm : Nat} {t : U32} {s : State} (h65 : s.acc.len ≤ 65) (hn : s.acc.len ≤ s.acc.nsamp)
    {xs before : List Sample} {last : Sample} (hd : s.dataOf xs = before ++ [last])
    (hg : ∀ x ∈ before, 10 * x.period ≤ 13 * pm) (hl : 13 * pm < 10 * last.period) :
    ∃ v, Taken pm (s.dataOf xs) s v ∧ xs.foldl (processSample pm t) s = finalize t v := by
  have hx : xs ≠ [] := by rintro rfl; simp [State.dataOf] at hd
  obtain ⟨u, e1, e2, e3, -⟩ := foldl_dataOf (pm := pm) (t := t) hn hx
  have A := absorbed_window (t := t) hg (s := u) (by rw [e2]; exact h65) e3
  have hw : xs.foldl (processSample pm t) s = processSample pm t (before.foldl (processSample pm t) u) last := by
    rw [e1, hd]; simp
  generalize before.foldl (processSample pm t) u = v at *
  have hv : v.isSyncSample = false := by
    have h1 : v.cfg = u.cfg := by rw [A.frame]
    have h2 : v.acc.nsamp = 0 → u.acc.nsamp = 0 := by rw [A.nsamp]; omega
    simp [State.isSyncSample, h1]; intro h0; exact e3 (h2 h0)
  have C := A.trans (absorbed_one (pm := pm) (x := last) hv (by rw [A.len]; omega))
  rw [← hd] at C
  refine ⟨_, C.taken e2, hw.trans (processSample_of_gap hl ?_)⟩
  have h1 := C.len
  have h2 : (takeSymbol pm v last).acc.len = min 65 (u.acc.len + (s.dataOf xs).length) := h1
  rw [h2, hd]; simp

/-- The symbol of a pulse, from its width (41_wordbuilder.md R150, R151). -/
theorem symbolOf_classify (inv : U32) (w : Nat) {pm : Nat} (h : 0 < pm) :
    symbolOf (classify w pm) inv = (decide (pm ≤ 2 * w) != decide (inv = 1#32)) := by
  rw [classify_eq h]; unfold symbolOf
  by_cases hh : 2 * w < pm
  · simp [hh, Nat.not_le.mpr hh]
  · simp [hh, Nat.not_lt.mp hh]

/-- The candidate of a word, from its symbols and records (41_wordbuilder.md R159). -/
theorem candidate_eq (s : State) : s.candidate =
    { bits := s.acc.symbols, longUs := mode0 (classWidths .long s.acc.records)
      shortUs := mode0 (classWidths .short s.acc.records), periodUs := mode0 (s.acc.records.map PosRec.period)
      polarity := decide (s.cfg.invertLogic = 1#32) } := rfl

/-- What a submission leaves in the matcher and the log depends on the registers, the matcher and the log alone. -/
theorem submitCore_congr {k : Candidate} {t : U32} {s u : State} (h1 : u.cfg = s.cfg) (h2 : u.corr = s.corr)
    (h3 : u.out = s.out) : (submitCore k t u).1.corr = (submitCore k t s).1.corr ∧
      (submitCore k t u).1.out = (submitCore k t s).1.out := by
  have hi : u.inserted k t = s.inserted k t := by simp [State.inserted, State.isStale, h1, h2]
  rcases submitCore_cases k t u with ⟨g, e⟩ | ⟨g, n, e⟩ | ⟨g, f, a, n, ⟨l, e⟩ | ⟨l, e⟩⟩ <;>
  rcases submitCore_cases k t s with ⟨g', e'⟩ | ⟨g', n', e'⟩ | ⟨g', f', a', n', ⟨l', e'⟩ | ⟨l', e'⟩⟩ <;>
  rw [e, e'] <;> simp_all

end Sys2Proof.Machine
end

