-- ==== Sys2Proof/Laws/PerInstr.lean ====
section
/-! SUPPORT. Statements made for each operation. `WordFields`: the two fields of the operation's word, in the format the
operation belongs to (30_encoding.md R97, R98, R108, R109). -/

namespace Sys2Proof.Laws

/-- The operation's word has the fields of its format: Format E with selector 0 and the operation's own code, or the
code of SET or of GET with the selector of the operation's register. -/
def WordFields.Statement (i : Instr) : Prop :=
  (selOf (encode i) = 0x00#8 ∧ decodeEvent (opcOf (encode i)) = some i) ∨
  (opcOf (encode i) = 0x30#8 ∧ decodeSet (selOf (encode i)) = some i) ∨
  (opcOf (encode i) = 0x31#8 ∧ decodeGet (selOf (encode i)) = some i)

theorem WordFields.rise : WordFields.Statement .rise := .inl ⟨rfl, rfl⟩
theorem WordFields.fall : WordFields.Statement .fall := .inl ⟨rfl, rfl⟩
theorem WordFields.ovf : WordFields.Statement .ovf := .inl ⟨rfl, rfl⟩
theorem WordFields.txdone : WordFields.Statement .txdone := .inl ⟨rfl, rfl⟩
theorem WordFields.bchk : WordFields.Statement .bchk := .inl ⟨rfl, rfl⟩
theorem WordFields.build : WordFields.Statement .build := .inl ⟨rfl, rfl⟩
theorem WordFields.submit : WordFields.Statement .submit := .inl ⟨rfl, rfl⟩
theorem WordFields.sched : WordFields.Statement .sched := .inl ⟨rfl, rfl⟩
theorem WordFields.enq : WordFields.Statement .enq := .inl ⟨rfl, rfl⟩
theorem WordFields.rst : WordFields.Statement .rst := .inl ⟨rfl, rfl⟩
theorem WordFields.setTimeoutUs : WordFields.Statement .setTimeoutUs := .inr (.inl ⟨rfl, rfl⟩)
theorem WordFields.setMatchThresh : WordFields.Statement .setMatchThresh := .inr (.inl ⟨rfl, rfl⟩)
theorem WordFields.setMinWordLen : WordFields.Statement .setMinWordLen := .inr (.inl ⟨rfl, rfl⟩)
theorem WordFields.setMaxWordLen : WordFields.Statement .setMaxWordLen := .inr (.inl ⟨rfl, rfl⟩)
theorem WordFields.setMaxBitPeriod : WordFields.Statement .setMaxBitPeriod := .inr (.inl ⟨rfl, rfl⟩)
theorem WordFields.setTxShort : WordFields.Statement .setTxShort := .inr (.inl ⟨rfl, rfl⟩)
theorem WordFields.setTxLong : WordFields.Statement .setTxLong := .inr (.inl ⟨rfl, rfl⟩)
theorem WordFields.setFrameDelayMs : WordFields.Statement .setFrameDelayMs := .inr (.inl ⟨rfl, rfl⟩)
theorem WordFields.setBurstDelayMs : WordFields.Statement .setBurstDelayMs := .inr (.inl ⟨rfl, rfl⟩)
theorem WordFields.setRepeatCount : WordFields.Statement .setRepeatCount := .inr (.inl ⟨rfl, rfl⟩)
theorem WordFields.setInvertLogic : WordFields.Statement .setInvertLogic := .inr (.inl ⟨rfl, rfl⟩)
theorem WordFields.setIgnoreSync : WordFields.Statement .setIgnoreSync := .inr (.inl ⟨rfl, rfl⟩)
theorem WordFields.setRxMode : WordFields.Statement .setRxMode := .inr (.inl ⟨rfl, rfl⟩)
theorem WordFields.getTimeoutUs : WordFields.Statement .getTimeoutUs := .inr (.inr ⟨rfl, rfl⟩)
theorem WordFields.getMatchThresh : WordFields.Statement .getMatchThresh := .inr (.inr ⟨rfl, rfl⟩)
theorem WordFields.getMinWordLen : WordFields.Statement .getMinWordLen := .inr (.inr ⟨rfl, rfl⟩)
theorem WordFields.getMaxWordLen : WordFields.Statement .getMaxWordLen := .inr (.inr ⟨rfl, rfl⟩)
theorem WordFields.getMaxBitPeriod : WordFields.Statement .getMaxBitPeriod := .inr (.inr ⟨rfl, rfl⟩)
theorem WordFields.getTxShort : WordFields.Statement .getTxShort := .inr (.inr ⟨rfl, rfl⟩)
theorem WordFields.getTxLong : WordFields.Statement .getTxLong := .inr (.inr ⟨rfl, rfl⟩)
theorem WordFields.getFrameDelayMs : WordFields.Statement .getFrameDelayMs := .inr (.inr ⟨rfl, rfl⟩)
theorem WordFields.getBurstDelayMs : WordFields.Statement .getBurstDelayMs := .inr (.inr ⟨rfl, rfl⟩)
theorem WordFields.getRepeatCount : WordFields.Statement .getRepeatCount := .inr (.inr ⟨rfl, rfl⟩)
theorem WordFields.getInvertLogic : WordFields.Statement .getInvertLogic := .inr (.inr ⟨rfl, rfl⟩)
theorem WordFields.getIgnoreSync : WordFields.Statement .getIgnoreSync := .inr (.inr ⟨rfl, rfl⟩)
theorem WordFields.getRxMode : WordFields.Statement .getRxMode := .inr (.inr ⟨rfl, rfl⟩)
theorem WordFields.getStatus : WordFields.Statement .getStatus := .inr (.inr ⟨rfl, rfl⟩)
theorem WordFields.getQcount : WordFields.Statement .getQcount := .inr (.inr ⟨rfl, rfl⟩)
theorem WordFields.getStorIdx : WordFields.Statement .getStorIdx := .inr (.inr ⟨rfl, rfl⟩)
theorem WordFields.getProcIdx : WordFields.Statement .getProcIdx := .inr (.inr ⟨rfl, rfl⟩)
theorem WordFields.getTgtIdx : WordFields.Statement .getTgtIdx := .inr (.inr ⟨rfl, rfl⟩)
theorem WordFields.getCorrWidx : WordFields.Statement .getCorrWidx := .inr (.inr ⟨rfl, rfl⟩)
theorem WordFields.getFramesSent : WordFields.Statement .getFramesSent := .inr (.inr ⟨rfl, rfl⟩)
theorem WordFields.getOvfCount : WordFields.Statement .getOvfCount := .inr (.inr ⟨rfl, rfl⟩)

end Sys2Proof.Laws
end

