-- ==== Sys2Proof/Laws/Safety.lean ====
section
/-! SUPPORT. The invariant of a concrete state as a check that evaluates, and its soundness; and what the invariant says
of the extended count. -/

namespace Sys2Proof.Machine

/-- `Capture.Wf` as a check. -/
def Capture.check (p : Params) (c : Capture) : Bool :=
  c.ring.length == p.sampleCap && decide (c.storIdx < p.sampleCap) && decide (c.procIdx < p.sampleCap)
    && decide (c.tgtIdx < p.sampleCap) && decide (c.lastRise < p.timerMod)
    && decide (c.ovf ≤ (2 ^ 32 - 1) / p.timerMod + 2)
    && decide (ringDist p.sampleCap c.procIdx c.tgtIdx ≤ ringDist p.sampleCap c.procIdx c.storIdx)
    && (List.range p.sampleCap).all fun k =>
      let x := c.ring.getD ((c.procIdx + k) % p.sampleCap) Sample.clean
      if k < ringDist p.sampleCap c.procIdx c.storIdx then x.valid
      else k == ringDist p.sampleCap c.procIdx c.storIdx || x == Sample.clean

theorem Capture.wf_of_check {p : Params} {c : Capture} (h : c.check p = true) : c.Wf p := by
  simp only [Capture.check, Bool.and_eq_true, beq_iff_eq, decide_eq_true_eq, List.all_eq_true, List.mem_range] at h
  obtain ⟨⟨⟨⟨⟨⟨⟨h1, h2⟩, h3⟩, h4⟩, h5⟩, h6⟩, h7⟩, h8⟩ := h
  refine ⟨h1, h2, h3, h4, h5, h6, h7, fun k hk => ?_, fun k hk hd => ?_⟩
  · have hlt := ringDist_lt (by omega : 0 < p.sampleCap) c.procIdx c.storIdx
    simpa [hk] using h8 k (by omega)
  · have hne : k ≠ ringDist p.sampleCap c.procIdx c.storIdx := by omega
    simpa [Nat.not_lt.mpr (Nat.le_of_lt hd), hne] using h8 k hk

/-- `Acc.Wf` as a check. -/
def Acc.check (a : Acc) : Bool :=
  decide (a.len ≤ Config.symCap) && decide (a.len ≤ a.nsamp)
    && (a.bits.toList.drop a.len).all (· == false) && (a.recs.toList.drop a.len).all (· == PosRec.clear)

/-- A property of the tail of a vector's list, read at one position. -/
theorem all_drop_getElem {α : Type} {n : Nat} {v : Vector α n} {m : Nat} {f : α → Bool}
    (h : (v.toList.drop m).all f = true) {j : Nat} (hj : j < n) (hm : m ≤ j) : f v[j] = true := by
  rw [List.all_eq_true] at h
  refine h _ (List.mem_iff_getElem.mpr ⟨j - m, ?_, ?_⟩)
  · simp; omega
  · simp [show m + (j - m) = j by omega]

theorem Acc.wf_of_check {a : Acc} (h : a.check = true) : a.Wf := by
  simp only [Acc.check, Bool.and_eq_true, decide_eq_true_eq] at h
  obtain ⟨⟨⟨h1, h2⟩, h3⟩, h4⟩ := h
  exact ⟨h1, h2, fun j hj =>
    ⟨by simpa using all_drop_getElem h3 j.isLt hj, by simpa using all_drop_getElem h4 j.isLt hj⟩⟩

/-- `Corr.Wf` as a check. -/
def Corr.check (c : Corr) : Bool :=
  c.lc.all (fun l => c.slots[l.val].isSome) && c.slots.toList.all fun o => o.all fun k => k.length ≤ Config.symCap

theorem Corr.wf_of_check {c : Corr} (h : c.check = true) : c.Wf := by
  simp only [Corr.check, Bool.and_eq_true] at h
  refine ⟨fun l hl => by simpa [hl] using h.1, fun j k hk => ?_⟩
  have hj := all_drop_getElem (m := 0) (by simpa using h.2) j.isLt (Nat.zero_le _)
  rw [hk] at hj
  simpa using hj

/-- `Sched.Wf` as a check. -/
def Sched.check (x : Sched) : Bool :=
  (x.frm.burstComplete == decide (x.bstate = .idle)) && (x.txActive == decide (x.bstate = .active))
    && decide (x.fstate = .inFlight → x.bstate = .active ∧ x.frm.frameComplete = false)
    && decide (x.rxExcl = true → x.bstate = .active ∧ x.radioOn = false)
    && decide (x.frm.len ≤ Config.dutyCap) && decide (x.bstate = .active → 2 ≤ x.frm.len)
    && (x.frm.duty.toList.drop (x.frm.len - 1)).all (· == 0#32)

theorem Sched.wf_of_check {x : Sched} (h : x.check = true) : x.Wf := by
  simp only [Sched.check, Bool.and_eq_true, decide_eq_true_eq, beq_iff_eq] at h
  obtain ⟨⟨⟨⟨⟨⟨h1, h2⟩, h3⟩, h4⟩, h5⟩, h6⟩, h7⟩ := h
  exact ⟨by simp [h1], by simp [h2], h3, h4, h5, h6, fun j hj => by
    simpa using all_drop_getElem h7 j.isLt (by omega)⟩

/-- `TxQueue.Wf` as a check. -/
def TxQueue.check (q : TxQueue) : Bool :=
  decide (q.count ≤ Config.qCap) && decide (∀ j : Fin Config.qCap, (q.slots[j.val]).isSome = true ↔ j.val < q.count)
    && q.slots.toList.all fun o => o.all fun str => 1 ≤ str.length && str.length ≤ Config.symCap

theorem TxQueue.wf_of_check {q : TxQueue} (h : q.check = true) : q.Wf := by
  simp only [TxQueue.check, Bool.and_eq_true, decide_eq_true_eq] at h
  refine ⟨h.1.1, h.1.2, fun j str hj => ?_⟩
  have hs := all_drop_getElem (m := 0) (by simpa using h.2) j.isLt (Nat.zero_le _)
  rw [hj] at hs
  simpa using hs

/-- `State.Inv` as a check. -/
def State.invCheck (s : State) : Bool :=
  s.params.wellFormed && s.cfg.wellFormed && s.cap.check s.params && s.acc.check && s.corr.check && s.tx.check
    && s.queue.check

theorem State.inv_of_check {s : State} (h : s.invCheck = true) : s.Inv := by
  simp only [State.invCheck, Bool.and_eq_true] at h
  obtain ⟨⟨⟨⟨⟨⟨h1, h2⟩, h3⟩, h4⟩, h5⟩, h6⟩, h7⟩ := h
  exact ⟨h1, h2, Capture.wf_of_check h3, Acc.wf_of_check h4, Corr.wf_of_check h5, Sched.wf_of_check h6,
    TxQueue.wf_of_check h7⟩

/-- A legal instance has room for every extended count (00_scope.md R11). -/
theorem countLimit_fits {p : Params} (h : p.wellFormed = true) : p.countLimit < 2 ^ p.sampleBits := by
  simp only [Params.wellFormed, Bool.and_eq_true, decide_eq_true_eq] at h
  exact h.1.1.2

/-- Where it is not raced, the extended count of a capture in its domain is below the limit (R11, R130). -/
theorem State.ext_lt_countLimit {s : State} {c ref : Nat} (h : s.cap.Wf s.params) (hc : c < s.params.timerMod)
    (hr : ref ≤ s.cap.ovf * s.params.timerMod + c) : s.ext c ref < s.params.countLimit := by
  have h1 := Nat.mul_le_mul_right s.params.timerMod (Nat.add_le_add_right h.ovf_capped 1)
  rw [Nat.add_mul] at h1
  unfold State.ext Params.countLimit
  rw [if_pos hr]
  omega

end Sys2Proof.Machine
end

