-- ==== Sys2Proof/Machine/Assembler.lean ====
section
/-! DEFINITION. The assembler syntax of 30_encoding.md R115 and the pseudo-operations of R116, from the characters of
one line to the operations it issues. A line that is not in the syntax gives `none`
(DESIGN CHOICE where R115 is silent, log entry 17). -/

namespace Sys2Proof.Machine

/-- Drop leading spaces. -/
def dropSpaces : List Char → List Char
  | ' ' :: cs => dropSpaces cs
  | cs => cs

/-- A character of a mnemonic or a register name. -/
def isNameChar (c : Char) : Bool := c.isAlphanum || c == '_' || c == '.'

/-- The leading name, and the rest without the spaces after it. -/
def takeName (cs : List Char) : String × List Char :=
  (String.ofList (cs.takeWhile isNameChar), dropSpaces (cs.dropWhile isNameChar))

/-- The rest after a required token, spaces around it dropped. -/
def expect (token : String) (cs : List Char) : Option (List Char) :=
  if token.toList.isPrefixOf (dropSpaces cs) then some (dropSpaces ((dropSpaces cs).drop token.length)) else none

/-- The value of a digit in a base. -/
def digitOf (base : Nat) (c : Char) : Option Nat :=
  let d :=
    if '0'.toNat ≤ c.toNat ∧ c.toNat ≤ '9'.toNat then some (c.toNat - '0'.toNat)
    else if 'a'.toNat ≤ c.toNat ∧ c.toNat ≤ 'f'.toNat then some (c.toNat - 'a'.toNat + 10)
    else if 'A'.toNat ≤ c.toNat ∧ c.toNat ≤ 'F'.toNat then some (c.toNat - 'A'.toNat + 10)
    else none
  d.filter fun n => n < base

/-- The digits at the front, folded into a number; `none` where there is no digit. -/
def takeDigits (base : Nat) : Option Nat → List Char → Option (Nat × List Char)
  | acc, [] => acc.map fun n => (n, [])
  | acc, c :: cs =>
    match digitOf base c with
    | some d => takeDigits base (some (acc.getD 0 * base + d)) cs
    | none => acc.map fun n => (n, dropSpaces (c :: cs))

/-- A number: decimal unless written with `0x` (R115). -/
def takeNat (cs : List Char) : Option (Nat × List Char) :=
  match dropSpaces cs with
  | '0' :: 'x' :: rest => takeDigits 16 none rest
  | rest => takeDigits 10 none rest

/-- A number that fits a `u32` port. -/
def takeU32 (cs : List Char) : Option (U32 × List Char) :=
  (takeNat cs).bind fun r => if r.1 < 2 ^ 32 then some (BitVec.ofNat 32 r.1, r.2) else none

/-- A quoted string: its characters, and what follows the closing quote. -/
def takeQuoted (cs : List Char) : Option (List Char × List Char) :=
  (expect "\"" cs).bind fun _ =>
    let body := (dropSpaces cs).drop 1
    match body.dropWhile (fun c => c != '"') with
    | '"' :: rest => some (body.takeWhile (fun c => c != '"'), dropSpaces rest)
    | _ => none

/-- Each character of a transmit string is one byte (R115). -/
def bytesOf (cs : List Char) : Option (List Byte) :=
  cs.mapM fun c => if c.toNat < 256 then some (BitVec.ofNat 8 c.toNat) else none

/-- The symbols of a candidate, `0` or `1`. -/
def symbolsOf (cs : List Char) : Option (List Bool) :=
  cs.mapM fun c => if c = '1' then some true else if c = '0' then some false else none

/-- Nothing may follow the operands of a line. -/
def endOfLine (r : α × List Char) : Option α := if dropSpaces r.2 = [] then some r.1 else none

/-- The configuration register of a name (10_state.md R31). -/
def cfgRegOf (name : String) : Option CfgReg :=
  match name with
  | "TIMEOUT_US" => some .timeoutUs
  | "MATCH_THRESH" => some .matchThresh
  | "MIN_WORD_LEN" => some .minWordLen
  | "MAX_WORD_LEN" => some .maxWordLen
  | "MAX_BIT_PERIOD" => some .maxBitPeriod
  | "TX_SHORT" => some .txShort
  | "TX_LONG" => some .txLong
  | "FRAME_DELAY_MS" => some .frameDelayMs
  | "BURST_DELAY_MS" => some .burstDelayMs
  | "REPEAT_COUNT" => some .repeatCount
  | "INVERT_LOGIC" => some .invertLogic
  | "IGNORE_SYNC" => some .ignoreSync
  | "RX_MODE" => some .rxMode
  | _ => none

/-- The read-only register of a name (10_state.md R49, R50). -/
def viewRegOf (name : String) : Option ViewReg :=
  match name with
  | "STATUS" => some .status
  | "QCOUNT" => some .qcount
  | "STOR_IDX" => some .storIdx
  | "PROC_IDX" => some .procIdx
  | "TGT_IDX" => some .tgtIdx
  | "CORR_WIDX" => some .corrWidx
  | "FRAMES_SENT" => some .framesSent
  | "OVF_COUNT" => some .ovfCount
  | _ => none

/-- `name=value` of a candidate, with the comma before it. -/
def takeField (name : String) (cs : List Char) : Option (Nat × List Char) :=
  (expect "," cs).bind fun a => (expect name a).bind fun b => (expect "=" b).bind takeNat

/-- A candidate record as SUBMIT writes it: the bits, then `long`, `short`, `period` and `pol`, between braces
(characters 123 and 125). -/
def takeCandidate (cs : List Char) : Option (Candidate × List Char) := do
  let body ← expect (String.singleton (Char.ofNat 123)) cs
  let a ← (expect "bits" body).bind (expect "=")
  let (chars, a) ← takeQuoted a
  let bits ← symbolsOf chars
  let (long, a) ← takeField "long" a
  let (short, a) ← takeField "short" a
  let (period, a) ← takeField "period" a
  let (pol, a) ← takeField "pol" a
  let rest ← expect (String.singleton (Char.ofNat 125)) a
  if pol ≤ 1 then
    some ({ bits := bits, longUs := long, shortUs := short, periodUs := period, polarity := pol == 1 }, rest)
  else none

/-- `SET.<reg> v` at the front of a line. R115 admits the names of R49 and R50 after `SET.` too, and R108 gives no SET
word for them: such a line is read as none and issues no reserved word (DESIGN CHOICE, log entry 17). -/
def takeSet (cs : List Char) : Option ((CfgReg × U32) × List Char) := do
  let (name, rest) := takeName (dropSpaces cs)
  if "SET.".toList.isPrefixOf name.toList then
    let r ← cfgRegOf (String.ofList (name.toList.drop 4))
    let (v, rest) ← takeU32 rest
    some ((r, v), rest)
  else none

/-- The pairs of a SETCFG, separated by commas; `n` bounds their number. -/
def takeSets : Nat → List Char → Option (List (CfgReg × U32))
  | 0, _ => none
  | n + 1, cs => do
    let (x, rest) ← takeSet cs
    match rest with
    | [] => some [x]
    | ',' :: more => (takeSets n more).map fun xs => x :: xs
    | _ => none

/-- `c` and `t`, or `r` and `f`: two numbers with a comma between. -/
def takePair (cs : List Char) : Option ((Nat × Nat) × List Char) := do
  let (a, rest) ← takeNat cs
  let rest ← expect "," rest
  let (b, rest) ← takeNat rest
  some ((a, b), rest)

/-- A line whose operation reads `C`. -/
def lineC (i : Instr) (cs : List Char) : Option (List Issue) :=
  ((takeNat cs).bind endOfLine).map fun c => [issueC i c]

/-- A line whose operation reads `T`. -/
def lineT (i : Instr) (cs : List Char) : Option (List Issue) :=
  ((takeU32 cs).bind endOfLine).map fun t => [issueT i t]

/-- A line whose operation reads no port. -/
def line0 (i : Instr) (cs : List Char) : Option (List Issue) :=
  if dropSpaces cs = [] then some [issue i Ports.quiet] else none

/-- A GET of the named register, which may be a configuration register or a read-only one. -/
def lineGet (name : String) (cs : List Char) : Option (List Issue) :=
  match cfgRegOf name, viewRegOf name with
  | some r, _ => line0 (getInstr r) cs
  | none, some r => line0 (viewInstr r) cs
  | none, none => none

/-- One line of assembler text (R115, R116); a comment or an empty line issues nothing. -/
def assembleChars (line : List Char) : Option (List Issue) :=
  let cs := dropSpaces line
  match cs with
  | [] => some []
  | ';' :: _ => some []
  | _ =>
    let (name, rest) := takeName cs
    match name with
    | "RISE" => lineC .rise rest
    | "FALL" => lineC .fall rest
    | "BCHK" => lineC .bchk rest
    | "OVF" => line0 .ovf rest
    | "RST" => line0 .rst rest
    | "TXDONE" => lineT .txdone rest
    | "BUILD" => lineT .build rest
    | "SCHED" => lineT .sched rest
    | "SUBMIT" => do
      let (t, a) ← takeU32 rest
      let a ← expect "," a
      let k ← (takeCandidate a).bind endOfLine
      some [issueK t k]
    | "ENQ" => do
      let chars ← (takeQuoted rest).bind endOfLine
      let bytes ← bytesOf chars
      some [issueS bytes]
    | "TICK" => do
      let (c, t) ← (takePair rest).bind endOfLine
      if t < 2 ^ 32 then some (tick c (BitVec.ofNat 32 t)) else none
    | "PULSE" => ((takePair rest).bind endOfLine).map fun p => pulse p.1 p.2
    | "SETCFG" => (takeSets rest.length rest).map setcfg
    | _ =>
      if "SET.".toList.isPrefixOf name.toList then ((takeSet cs).bind endOfLine).map fun r => setcfg [r]
      else if "GET.".toList.isPrefixOf name.toList then lineGet (String.ofList (name.toList.drop 4)) rest
      else none

/-- One line of assembler text. -/
def assemble (line : String) : Option (List Issue) := assembleChars line.toList

end Sys2Proof.Machine
end

