-- ==== Sys2Proof/Tests/Slice0.lean ====
section
/-! SUPPORT. Tests: the checks of WellFormed refusing an ill-formed term each, the decoding of every operation word,
one-step tests whose expected values are the spec's vectors (95_test_vectors.md, cited by number), and for every
statement with hypotheses a concrete state that meets them (`witness_…`). -/

namespace Sys2Proof.Tests

open Sys2Proof.Machine

/-! ### Helpers -/

/-- The outcome is a next state with the property. -/
def gives (o : Outcome) (f : State → Bool) : Bool :=
  match o with
  | .next t => f t
  | .fault _ => false
  | .refused _ => false

/-- The outcome is this refusal. -/
def refuses (o : Outcome) (r : Refusal) : Bool :=
  match o with
  | .next _ => false
  | .fault _ => false
  | .refused r' => r' == r

/-- The result code and what `Q` carries. -/
def answers (o : Outcome) : Option (Code × Option U32) :=
  match o with
  | .next t => some (t.result, t.q)
  | .fault _ => none
  | .refused _ => none

def onC (c : Nat) : Ports := { Ports.quiet with c := c }
def onT (t : Nat) : Ports := { Ports.quiet with t := BitVec.ofNat 32 t }
def onV (v : Nat) : Ports := { Ports.quiet with v := BitVec.ofNat 32 v }
def onS (s : List Byte) : Ports := { Ports.quiet with s := s }
def onK (t : Nat) (k : Candidate) : Ports := { Ports.quiet with t := BitVec.ofNat 32 t, k := k }

/-- A candidate with the timings the vectors write (95_test_vectors.md 2.3). -/
def cand (bits : List Bool) : Candidate where
  bits := bits
  longUs := 700
  shortUs := 300
  periodUs := 1000
  polarity := false

/-- "Window W" of the vectors: complete samples from slot 0 on, and a boundary behind the last. -/
def windowOf (xs : List (Nat × Nat)) : State :=
  { State.reset with cap := { State.reset.cap with
      ring := xs.map (fun x => { period := x.1, width := x.2, valid := true }) ++
        List.replicate (16 - xs.length) Sample.clean
      storIdx := xs.length
      tgtIdx := xs.length } }

/-- After `RISE 100; FALL 800; RISE 1100; FALL 1400; RISE 2100; FALL 2800` (V6). -/
def threePulses : State :=
  { State.reset with cap := { State.reset.cap with
      ring := [{ period := 1000, width := 700, valid := true }, { period := 1000, width := 300, valid := true },
          { period := 0, width := 700, valid := true }] ++ List.replicate 13 Sample.clean
      storIdx := 2
      lastRise := 2100 } }

/-- A full ring of four slots, the consumer at slot 0 (V9). -/
def fullRing : State :=
  { State.resetOf { Params.vectors with sampleCap := 4 } with cap := { Capture.reset Params.vectors with
      ring := List.replicate 4 { period := 1000, width := 700, valid := true }
      storIdx := 3
      lastRise := 3100 } }

/-- A queue of the given strings. -/
def queued (xs : List (List Byte)) : State :=
  { State.reset with queue := {
      slots := #v[xs[0]?, xs[1]?, xs[2]?, xs[3]?, xs[4]?], count := xs.length } }

/-- `"10"`, `"01"` and `"1x0"` as bytes. -/
def str10 : List Byte := [0x31#8, 0x30#8]
def str01 : List Byte := [0x30#8, 0x31#8]
def strBad : List Byte := [0x31#8, 0x78#8, 0x30#8]

/-- A burst of `"10"` with a frame in flight, started in mode `OFF_DURING_TX` (P3 after line 5). -/
def flying : State :=
  { State.reset with
    cfg := { State.reset.cfg with rxMode := 2#32 }
    tx := {
      bstate := .active
      fstate := .inFlight
      frm := { Frame.reset with duty := dutyBuffer [700#32, 300#32, 0#32], len := 3, burstComplete := false }
      txActive := true
      rxExcl := true
      radioOn := false } }

/-- The same burst between two frames, the first completed at 15 ms (P3 after line 6). -/
def between : State :=
  { flying with tx := { flying.tx with
      fstate := .idle, frm := { flying.tx.frm with frameComplete := true, lastFrameMs := 15#32 } } }

/-- A correlation ring whose first `n` slots hold `k`, the last stored at `t`. -/
def holding (n : Fin 12) (k : Candidate) (t : U32) : State :=
  { State.reset with corr := {
      slots := Vector.ofFn fun j => if j < n then some k else none
      widx := n
      lc := none
      lastInsertMs := t } }

/-! ### WellFormed: an ill-formed term for each check -/

theorem test_capture_value_checked : [Instr.rise, .fall, .bchk].all (fun i =>
    i.wellFormed Params.vectors (onC 65535) && !i.wellFormed Params.vectors (onC 65536)) = true := by decide

theorem test_string_checked : Instr.enq.wellFormed Params.vectors (onS (List.replicate 255 0x31#8)) = true ∧
    Instr.enq.wellFormed Params.vectors (onS (List.replicate 256 0x31#8)) = false := by
  decide +kernel

theorem test_candidate_checked : Instr.submit.wellFormed Params.vectors (onK 0 (cand (List.replicate 65 true))) = true ∧
    Instr.submit.wellFormed Params.vectors (onK 0 (cand (List.replicate 66 true))) = false := by decide

theorem test_unread_port_not_checked : Instr.ovf.wellFormed Params.vectors (onC 65536) = true := by decide

theorem test_params_vectors_legal : Params.vectors.wellFormed = true := by decide

theorem test_params_sample_cap_checked : Params.wellFormed { Params.vectors with sampleCap := 1 } = false := by decide

theorem test_params_timer_mod_checked : Params.wellFormed { Params.vectors with timerMod := 1 } = false := by decide

/-- `(65537 + 1) * 65536` is above 2^32 and below 2^33 (R11). -/
theorem test_params_sample_bits_checked : Params.wellFormed { Params.vectors with sampleBits := 32 } = false ∧
    Params.wellFormed { Params.vectors with sampleBits := 33 } = true := by decide

theorem test_params_word_lengths_checked :
    Params.wellFormed { Params.vectors with rstMinWordLen := 65#32 } = false := by decide

theorem test_params_pulses_checked : Params.wellFormed { Params.vectors with rstTxShort := 701#32 } = false := by decide

theorem test_params_flags_checked : Params.wellFormed { Params.vectors with rstInvertLogic := 2#32 } = false ∧
    Params.wellFormed { Params.vectors with rstIgnoreSync := 2#32 } = false := by decide

theorem test_params_mode_checked : Params.wellFormed { Params.vectors with rstRxMode := 3#32 } = false := by decide

theorem test_params_bounds_checked : Params.wellFormed { Params.vectors with
    extraBounds := [{ reg := .txLong, lo := 600#32, hi := 800#32 }] } = false := by decide

theorem test_params_loose_bounds_legal : Params.wellFormed { Params.vectors with
    extraBounds := [{ reg := .txLong, lo := 701#32, hi := 800#32 }] } = true := by decide

/-! ### Decode: every word of R108, R109 and R110 -/

theorem test_decode_format_e : [0x0100, 0x0200, 0x0300, 0x0400, 0x1000, 0x1100, 0x1200, 0x1300, 0x2000, 0xF000].map
    (decodeTableWord 16) = [some .rise, some .fall, some .ovf, some .txdone, some .bchk, some .build, some .submit,
      some .sched, some .enq, some .rst] := by decide

theorem test_decode_set : [0x3000, 0x3001, 0x3002, 0x3003, 0x3004, 0x3005, 0x3006, 0x3007, 0x3008, 0x3009, 0x300A,
      0x300B, 0x300C].map (decodeTableWord 16) =
    [some .setTimeoutUs, some .setMatchThresh, some .setMinWordLen, some .setMaxWordLen, some .setMaxBitPeriod,
      some .setTxShort, some .setTxLong, some .setFrameDelayMs, some .setBurstDelayMs, some .setRepeatCount,
      some .setInvertLogic, some .setIgnoreSync, some .setRxMode] := by decide

theorem test_decode_get_config : [0x3100, 0x3101, 0x3102, 0x3103, 0x3104, 0x3105, 0x3106, 0x3107, 0x3108, 0x3109,
      0x310A, 0x310B, 0x310C].map (decodeTableWord 16) =
    [some .getTimeoutUs, some .getMatchThresh, some .getMinWordLen, some .getMaxWordLen, some .getMaxBitPeriod,
      some .getTxShort, some .getTxLong, some .getFrameDelayMs, some .getBurstDelayMs, some .getRepeatCount,
      some .getInvertLogic, some .getIgnoreSync, some .getRxMode] := by decide

/-- V56 is the last of these. -/
theorem test_decode_get_view : [0x3120, 0x3121, 0x3122, 0x3123, 0x3124, 0x3125, 0x3126, 0x3127].map
    (decodeTableWord 16) = [some .getStatus, some .getQcount, some .getStorIdx, some .getProcIdx, some .getTgtIdx,
      some .getCorrWidx, some .getFramesSent, some .getOvfCount] := by decide

/-- V53, V54, V55. -/
theorem test_decode_reserved : [0x0101, 0x3020, 0x310D, 0x3128, 0x3200, 0x0000, 0xFFFF].map (decodeTableWord 16) =
    List.replicate 7 none := by decide

/-- A reserved word says why it is reserved (R111, R108). -/
theorem test_reserved_kinds : [decode 0x0101#16, decode 0x3020#16, decode 0x300D#16, decode 0x3128#16, decode 0xE000#16].map
    (fun d => match d with | .ok _ => none | .error r => some r) =
    [some (.formatESelector 0x01#8 0x01#8), some (.setReadOnly 0x20#8), some (.setSelector 0x0D#8),
      some (.getSelector 0x28#8), some (.opcode 0xE0#8)] := by decide

/-! ### Assembler (R115, R116) -/

theorem test_assemble_capture : assemble "  RISE 100" = some [issueC .rise 100] ∧
    assemble "PULSE 0x64, 800" = some [issueC .rise 100, issueC .fall 800] ∧ assemble "RISE" = none := by decide

theorem test_assemble_tick : assemble "TICK 9000, 10" = some [issueC .bchk 9000, issueT .build 10#32, issueT .sched 10#32] := by
  decide

theorem test_assemble_submit : assemble ("SUBMIT 20, " ++ String.singleton (Char.ofNat 123) ++
    "bits=\"101\", long=700, short=300, period=1000, pol=0" ++ String.singleton (Char.ofNat 125)) =
    some [issueK 20#32 (cand [true, false, true])] := by decide

theorem test_assemble_enq : assemble "ENQ \"1x0\"" = some [issueS strBad] := by decide

theorem test_assemble_config : assemble "SETCFG SET.MATCH_THRESH 2, SET.RX_MODE 0x2" =
      some [issueV .setMatchThresh 2#32, issueV .setRxMode 2#32] ∧
    assemble "GET.OVF_COUNT" = some [issue .getOvfCount Ports.quiet] ∧ assemble "SET.STATUS 1" = none := by decide

/-! ### One step of each operation -/

/-- V3: `1·65536 + 1000 − 60000 = 6536`. -/
theorem test_rise_stores_and_advances : gives (execWith .rise (onC 1000)
    { State.reset with cap := { State.reset.cap with
        ring := State.reset.cap.ring.set 3 { period := 0, width := 9, valid := true }
        ovf := 1, lastRise := 60000, storIdx := 3 } })
    (fun t => t.slot 3 == { period := 6536, width := 9, valid := true } && t.cap.ovf == 0 &&
      t.cap.lastRise == 1000 && t.cap.storIdx == 4) = true := by decide

/-- V9: the ring is full, the period is overwritten and `STATUS` reads 0x122. -/
theorem test_rise_overrun : gives (execWith .rise (onC 4100) fullRing)
    (fun t => t.cap.storIdx == 3 && (t.slot 3).period == 1000 && t.status == 0x122#32) = true := by decide

/-- V2, its FALL: `2·65536 + 1000 − 60000 = 72072`. -/
theorem test_fall_stores_width : gives (execWith .fall (onC 1000)
    { State.reset with cap := { State.reset.cap with ovf := 2, lastRise := 60000 } })
    (fun t => t.slot 0 == { period := 0, width := 72072, valid := true } && t.cap.storIdx == 0) = true := by decide

/-- V11: the width of a raced capture is the next draw, whatever it is. -/
theorem test_fall_draws_when_raced : ∃ t, execWith .fall (onC 50)
    { State.reset with cap := { State.reset.cap with lastRise := 100 } } = .next t ∧
    (t.slot 0).width = Config.draw 0 ∧ t.draws = 1 := ⟨_, rfl, rfl, rfl⟩

/-- V4: `OVF_CAP(5000) = 2`. -/
theorem test_ovf_saturates : gives (exec .ovf { State.reset with cap := { State.reset.cap with ovf := 2 } })
    (fun t => t.cap.ovf == 2) = true := by decide

/-- V5: `OVF_CAP(200000) = 5`. -/
theorem test_ovf_counts : gives (exec .ovf { State.reset with
    cfg := { State.reset.cfg with maxBitPeriod := 200000#32 }, cap := { State.reset.cap with ovf := 4 } })
    (fun t => t.cap.ovf == 5) = true := by decide

/-- V6: 5000 is not greater than 5000. -/
theorem test_bchk_waits : gives (execWith .bchk (onC 7100) threePulses)
    (fun t => t.cap == threePulses.cap) = true := by decide

/-- V7. -/
theorem test_bchk_fires : gives (execWith .bchk (onC 7101) threePulses)
    (fun t => (t.slot 2).period == 5001 && t.cap.storIdx == 3 && t.cap.tgtIdx == 3) = true := by decide

/-- V15: two candidates, the second with its period replaced by the window's mode. -/
theorem test_build_two_words : gives (execWith .build (onT 10) (windowOf [(1000, 700), (6900, 700), (150000, 300)]))
    (fun t => t.corr.slots[0] == some { bits := [true, true], longUs := 700, shortUs := 0, periodUs := 1000, polarity := false }
      && t.corr.slots[1] == some { bits := [false], longUs := 0, shortUs := 300, periodUs := 1000, polarity := false }
      && t.acc == Acc.clear && t.cap.procIdx == 3 && t.slot 0 == Sample.clean) = true := by decide

/-- V20: the synchronization sample is skipped, and as a gap on an empty word it ends nothing. -/
theorem test_build_skips_sync : gives (execWith .build (onT 10)
    { windowOf [(6900, 700), (1000, 700), (1000, 300), (6900, 300)] with
      cfg := { State.reset.cfg with ignoreSync := 1#32 } })
    (fun t => t.corr.slots[0] == some (cand [true, false, false]) && t.corr.widx == 1) = true := by decide

/-- V29: `100·1000 >= 100000`. -/
theorem test_submit_clears_stale : gives (execWith .submit (onK 100 (cand [true])) (holding 3 (cand [false]) 0#32))
    (fun t => t.result == 0x91#8 && t.corr.slots[0] == some (cand [true]) && t.corr.slots[1] == none) = true := by
  decide

/-- V37, its third submission: the vote ignores timings, and the event carries slot 0's. -/
theorem test_submit_confirms : gives (execWith .submit (onK 2 { cand [true, false, true] with longUs := 702 })
    (holding 2 (cand [true, false, true]) 1#32))
    (fun t => t.result == 0x12#8 && t.corr.lc == some 0 &&
      t.out == State.reset.out ++ [.confirm [true, false, true] 3 700 300 1000 false]) = true := by decide

/-- V40, its second SCHED: `"01"` prepares `[300, 700, 0]`. -/
theorem test_sched_starts_burst : gives (execWith .sched (onT 11) (queued [str01]))
    (fun t => t.result == 0x20#8 && t.tx.frm.len == 3 && t.tx.frm.duty.toList.take 4 == [300#32, 700#32, 0#32, 0#32]
      && t.queue.count == 0 && t.tx.frm.lastFrameMs == 0#32) = true := by decide

/-- P3, line 8: the second frame, `frames_sent = 1`. -/
theorem test_sched_retriggers : gives (execWith .sched (onT 20) between)
    (fun t => t.result == 0x21#8 && t.tx.frm.framesSent == 1#32 && t.tx.fstate == .inFlight
      && t.out == between.out ++ [.pulseTrain [700#32, 300#32, 0#32] 3]) = true := by decide

/-- V44. -/
theorem test_txdone_ignored : gives (execWith .txdone (onT 5) State.reset)
    (fun t => t.result == 0x06#8 && t.tx == State.reset.tx) = true := by decide

/-- P3, line 9: the burst ends, and the radio comes back. -/
theorem test_txdone_ends_burst : gives (execWith .txdone (onT 24)
    { flying with tx := { flying.tx with frm := { flying.tx.frm with framesSent := 1#32 } } })
    (fun t => t.result == 0x23#8 && t.status == 0x2A#32 && t.out == flying.out ++ [.radioEnable]) = true := by decide

/-- V46: the length is checked before the room. -/
theorem test_enq_rejects : [[], List.replicate 65 0x31#8, List.replicate 66 0x31#8].map
    (fun s => answers (execWith .enq (onS s) (queued (List.replicate 5 str10)))) =
    [some (0x01#8, none), some (0x03#8, none), some (0x01#8, none)] := by decide

/-- V47. -/
theorem test_enq_any_bytes : gives (execWith .enq (onS [0x61#8, 0x62#8, 0x63#8]) State.reset)
    (fun t => t.result == 0x00#8 && t.queue.count == 1 && t.queue.slots[0] == some [0x61#8, 0x62#8, 0x63#8]) = true := by
  decide

/-- V57, V58: the burst and the fault bits go. -/
theorem test_rst : gives (exec .rst { flying with faults := { ovr := true, div0 := true, wovf := true } })
    (fun t => t.status == 0x22#32 && t.out == flying.out ++ [.startCapture, .radioEnable] && t.cfg == State.reset.cfg) = true := by
  decide

/-- Each SET writes its own register (R241 to R253). -/
theorem test_set_writes_its_register :
    gives (execWith .setTimeoutUs (onV 1) State.reset) (·.cfg == { State.reset.cfg with timeoutUs := 1#32 }) = true ∧
    gives (execWith .setMatchThresh (onV 1) State.reset) (·.cfg == { State.reset.cfg with matchThresh := 1#32 }) = true ∧
    gives (execWith .setMinWordLen (onV 64) State.reset) (·.cfg == { State.reset.cfg with minWordLen := 64#32 }) = true ∧
    gives (execWith .setMaxWordLen (onV 1) State.reset) (·.cfg == { State.reset.cfg with maxWordLen := 1#32 }) = true ∧
    gives (execWith .setMaxBitPeriod (onV 1) State.reset) (·.cfg == { State.reset.cfg with maxBitPeriod := 1#32 }) = true ∧
    gives (execWith .setTxShort (onV 700) State.reset) (·.cfg == { State.reset.cfg with txShort := 700#32 }) = true ∧
    gives (execWith .setTxLong (onV 300) State.reset) (·.cfg == { State.reset.cfg with txLong := 300#32 }) = true ∧
    gives (execWith .setFrameDelayMs (onV 1) State.reset) (·.cfg == { State.reset.cfg with frameDelayMs := 1#32 }) = true ∧
    gives (execWith .setBurstDelayMs (onV 1) State.reset) (·.cfg == { State.reset.cfg with burstDelayMs := 1#32 }) = true ∧
    gives (execWith .setRepeatCount (onV 1) State.reset) (·.cfg == { State.reset.cfg with repeatCount := 1#32 }) = true ∧
    gives (execWith .setInvertLogic (onV 1) State.reset) (·.cfg == { State.reset.cfg with invertLogic := 1#32 }) = true ∧
    gives (execWith .setIgnoreSync (onV 1) State.reset) (·.cfg == { State.reset.cfg with ignoreSync := 1#32 }) = true ∧
    gives (execWith .setRxMode (onV 2) State.reset) (·.cfg == { State.reset.cfg with rxMode := 2#32 }) = true := by
  decide

/-- E7 and V48. -/
theorem test_set_rejects : [execWith .setMinWordLen (onV 65) State.reset, execWith .setMaxWordLen (onV 0) State.reset,
    execWith .setTxShort (onV 701) State.reset, execWith .setTxLong (onV 299) State.reset,
    execWith .setInvertLogic (onV 2) State.reset, execWith .setIgnoreSync (onV 2) State.reset,
    execWith .setRxMode (onV 3) State.reset].map (fun o => gives o fun t => t.result == 0x01#8 && t.cfg == State.reset.cfg) =
    List.replicate 7 true := by decide

/-- V50: `OFF_DURING_TX` set in the middle of a burst. -/
theorem test_set_rx_mode_in_burst : gives (execWith .setRxMode (onV 2)
    { between with tx := { between.tx with rxExcl := false, radioOn := true, frm := { between.tx.frm with frameComplete := false } } })
    (fun t => t.status == 0x11#32 && t.out == between.out ++ [.radioDisable]) = true := by decide

/-- A register file with a different value in each register. -/
def distinct : State :=
  { flying with
    cfg := { timeoutUs := 1#32, matchThresh := 2#32, minWordLen := 3#32, maxWordLen := 4#32, maxBitPeriod := 5#32,
             txShort := 6#32, txLong := 7#32, frameDelayMs := 8#32, burstDelayMs := 9#32, repeatCount := 10#32,
             invertLogic := 11#32, ignoreSync := 12#32, rxMode := 13#32 }
    queue := { TxQueue.reset with count := 21 }
    cap := { State.reset.cap with storIdx := 22, procIdx := 23, tgtIdx := 24, ovf := 27 }
    corr := { Corr.reset with widx := 5 }
    tx := { flying.tx with frm := { flying.tx.frm with framesSent := 26#32 } } }

/-- Each GET drives its own register (R236); `STATUS` of a frame in flight with the radio shut out (R49). -/
theorem test_get_reads_its_register : [Instr.getTimeoutUs, .getMatchThresh, .getMinWordLen, .getMaxWordLen,
    .getMaxBitPeriod, .getTxShort, .getTxLong, .getFrameDelayMs, .getBurstDelayMs, .getRepeatCount, .getInvertLogic,
    .getIgnoreSync, .getRxMode, .getStatus, .getQcount, .getStorIdx, .getProcIdx, .getTgtIdx, .getCorrWidx,
    .getFramesSent, .getOvfCount].map (fun i => answers (exec i distinct)) =
    [1, 2, 3, 4, 5, 6, 7, 8, 9, 10, 11, 12, 13, 0x15, 21, 22, 23, 24, 5, 26, 27].map
      (fun v => some (0x00#8, some (BitVec.ofNat 32 v))) := by decide

/-- V10, and the other two payloads out of their domains. -/
theorem test_refusals : refuses (execWith .rise (onC 65536) State.reset) .captureOutOfDomain = true ∧
    refuses (execWith .submit (onK 0 (cand (List.replicate 66 true))) State.reset) .candidateOutOfDomain = true ∧
    refuses (execWith .enq (onS (List.replicate 256 0x31#8)) State.reset) .stringOutOfDomain = true :=
  ⟨by decide, by decide, by decide +kernel⟩

/-- V51 through the fetch: `GET.TIMEOUT_US` as the first operation after reset. -/
theorem test_fetch_runs_the_word : answers (step (State.reset.withFetchWord 16 0x3100)) = some (0x00#8, some 100000#32) := by
  decide

/-- V54 through the fetch. -/
theorem test_fetch_reserved : answers (step (State.reset.withFetchWord 16 0x3020)) = some (0x05#8, none) := by decide

/-- Part 0 of the vectors: the log and `STATUS` after one RST. -/
theorem test_reset : State.reset.out = [.startCapture, .radioEnable] ∧ State.reset.status = 0x22#32 ∧
    (State.resetOf { Params.vectors with rstRxMode := 0#32 }).out = [.startCapture, .radioDisable] := by decide

/-! ### Witnesses: for each statement with hypotheses, states that meet them, clause by clause -/

/-- The state with these operations issued. -/
def issued (xs : List Issue) (s : State) : State := { s with inbox := xs }

theorem witness_StepRunsTheDecodedOperation : (issued [issueC .rise 100] State.reset).inbox = issueC .rise 100 :: [] ∧
    decode (issueC .rise 100).word = .ok .rise := ⟨rfl, rfl⟩

theorem witness_ReservedWordIsTheIllegalOperation :
    (issued [{ word := 0x3020#16, ports := Ports.quiet }] State.reset).inbox =
      { word := 0x3020#16, ports := Ports.quiet } :: [] ∧
    decode 0x3020#16 = .error (.setReadOnly 0x20#8) := ⟨rfl, rfl⟩

theorem witness_NothingIssuedNothingDone : State.reset.inbox = [] := rfl

/-- Each clause at its boundary. -/
theorem witness_OperationsCompleteOnTheirPortDomains :
    Instr.rise.wellFormed State.reset.params (onC 65535) = true ∧
    Instr.submit.wellFormed State.reset.params (onK 0 (cand (List.replicate 65 true))) = true ∧
    State.reset.params.timerMod ≤ (onC 65536).c ∧ 65 < (onK 0 (cand (List.replicate 66 true))).k.bits.length ∧
    255 < (onS (List.replicate 256 0x31#8)).s.length ∧ 65 < (onS (List.replicate 66 0x31#8)).s.length ∧
    (onS (List.replicate 255 0x31#8)).s.length ≤ 255 := by decide +kernel

theorem witness_TickRunsItsThreePartsInOrder :
    (issued (tick 9000 10#32) threePulses).inbox = tick 9000 10#32 ++ [] ∧
    ∃ s1 s2, step (issued (tick 9000 10#32) threePulses) = .next s1 ∧ step s1 = .next s2 := ⟨rfl, _, _, rfl, rfl⟩

/-- Also for the statements about every operation that answers a next state. -/
theorem witness_OutputsAndFutureAreNeverRead : ∃ t, exec .rise State.reset = .next t := ⟨_, rfl⟩

theorem witness_OutputLogOnlyGrows : ∃ t, execWith .sched (onT 20) between = .next t ∧ t.out ≠ between.out :=
  ⟨_, rfl, by decide⟩

/-- A set bit kept, a set bit cleared, and each bit raised by an operation its rule names. -/
theorem witness_FaultBitsAreStickyAndNamed :
    (∃ t, exec .ovf { State.reset with faults := { ovr := true, div0 := true, wovf := true } } = .next t) ∧
    (∃ t, exec .rst { State.reset with faults := { ovr := true, div0 := true, wovf := true } } = .next t) ∧
    (∃ t, execWith .rise (onC 4100) fullRing = .next t ∧ fullRing.faults.ovr = false ∧ t.faults.ovr = true) ∧
    (∃ t, execWith .build (onT 10) (windowOf [(0, 100), (8900, 200)]) = .next t ∧
      (windowOf [(0, 100), (8900, 200)]).faults.div0 = false ∧ t.faults.div0 = true) ∧
    (∃ t, execWith .build (onT 10) { windowOf [(1000, 700)] with acc := { Acc.clear with nsamp := 65, len := 65 } } =
      .next t ∧ t.faults.wovf = true) :=
  ⟨⟨_, rfl⟩, ⟨_, rfl⟩, ⟨_, rfl, rfl, by decide⟩, ⟨_, rfl, rfl, by decide⟩, ⟨_, rfl, by decide⟩⟩

/-- RST, an operation that raises a bit, and one that raises none. -/
theorem witness_NoOperationTestsAFaultBit :
    (Instr.rst ≠ .getStatus ∧ ∃ t, exec .rst flying = .next t) ∧
    (Instr.build ≠ .getStatus ∧ Instr.build ≠ .rst ∧
      ∃ t, execWith .build (onT 10) { windowOf [(1000, 700), (1000, 300)] with
        acc := { Acc.clear with nsamp := 65, len := 65 } } = .next t ∧ t.faults.wovf = true) ∧
    ∃ t, execWith .build (onT 10) (windowOf [(1000, 700), (6900, 300)]) = .next t ∧ t.faults.wovf = false :=
  ⟨⟨by decide, _, rfl⟩, ⟨by decide, by decide, _, rfl, by decide⟩, _, rfl, by decide⟩

theorem witness_ResultCodesByOperation : ∃ t, execWith .txdone (onT 5) flying = .next t ∧ t.result = 0x22#8 :=
  ⟨_, rfl, by decide⟩

/-- One step that writes each part. -/
theorem witness_EachPartHasItsWriters :
    (∃ t, execWith .rise (onC 5) State.reset = .next t ∧ t.cap ≠ State.reset.cap) ∧
    (∃ t, execWith .setTimeoutUs (onV 5) State.reset = .next t ∧ t.cfg ≠ State.reset.cfg) ∧
    (∃ t, execWith .build (onT 5) (windowOf [(1000, 700)]) = .next t ∧ t.acc ≠ (windowOf [(1000, 700)]).acc) ∧
    (∃ t, execWith .submit (onK 5 (cand [true])) State.reset = .next t ∧ t.corr ≠ State.reset.corr) ∧
    (∃ t, execWith .txdone (onT 5) flying = .next t ∧ t.tx ≠ flying.tx) ∧
    (∃ t, execWith .enq (onS str10) State.reset = .next t ∧ t.queue ≠ State.reset.queue) ∧
    (∃ t, execWith .rise (onC 4100) fullRing = .next t ∧ t.faults ≠ fullRing.faults) :=
  ⟨⟨_, rfl, by decide⟩, ⟨_, rfl, by decide⟩, ⟨_, rfl, by decide⟩, ⟨_, rfl, by decide⟩, ⟨_, rfl, by decide⟩,
    ⟨_, rfl, by decide⟩, ⟨_, rfl, by decide⟩⟩

theorem witness_InvariantKeptByEveryStep : (issued [issueT .build 10#32] (windowOf [(1000, 700), (6900, 300)])).Inv ∧
    ∃ t, step (issued [issueT .build 10#32] (windowOf [(1000, 700), (6900, 300)])) = .next t :=
  ⟨State.inv_of_check (by decide), _, rfl⟩

theorem witness_InvariantHoldsAtReset : Params.wellFormed { Params.vectors with sampleCap := 2, timerMod := 2 } = true := by
  decide

theorem witness_ReachableStatesKeepTheOrderings : Params.vectors.wellFormed = true ∧
    ∃ s, Reachable Params.vectors s ∧ s.inbox = [issueV .setMinWordLen 64#32] :=
  ⟨by decide, _, .issued _ (issueV .setMinWordLen 64#32) .reset, rfl⟩

/-- A reachable state with no fault bit, two operations after reset. -/
theorem witness_ReachableStatesKeepTheRingDiscipline : Params.vectors.wellFormed = true ∧
    ∃ s, Reachable Params.vectors s ∧ s.noFault = true ∧ (s.slot 0).period = 500 :=
  ⟨by decide, _, .stepped _ _ (.issued _ (issueC .rise 500) .reset) rfl, by decide, by decide⟩

theorem witness_ResetValueOfEveryField : State.reset = State.resetOf Params.vectors := rfl

/-- Both domains of `C` at their boundary. -/
theorem witness_RiseStoresPeriodAndAdvances : (onC 65535).c < State.reset.params.timerMod ∧
    State.reset.params.timerMod ≤ (onC 65536).c := by decide

theorem witness_FallStoresWidth : (onC 65535).c < State.reset.params.timerMod := by decide

/-- Firing at 5001, waiting at 5000 (V6, V7). -/
theorem witness_BoundaryCheckSnapshotsTheWindow : (onC 7101).c < threePulses.params.timerMod ∧
    threePulses.cfg.maxBitPeriod.toNat < threePulses.ext 7101 threePulses.cap.lastRise ∧
    threePulses.cap.storIdx ≠ threePulses.cap.procIdx ∧
    ¬threePulses.cfg.maxBitPeriod.toNat < threePulses.ext 7100 threePulses.cap.lastRise := by decide

/-- Two overflows, the smallest number the statement speaks of at `MAX_BIT_PERIOD = 5000`. -/
theorem witness_SilenceMakesTheBoundaryFire :
    (issued (List.replicate 2 (issue .ovf Ports.quiet) ++ [issueC .bchk 0]) threePulses).Inv ∧
    threePulses.cap.storIdx ≠ threePulses.cap.procIdx ∧ 0 < threePulses.params.timerMod ∧
    threePulses.cfg.maxBitPeriod.toNat / threePulses.params.timerMod + 2 - threePulses.cap.ovf ≤ 2 ∧
    (issued (List.replicate 2 (issue .ovf Ports.quiet) ++ [issueC .bchk 0]) threePulses).inbox =
      List.replicate 2 (issue .ovf Ports.quiet) ++ [issueC .bchk 0] :=
  ⟨State.inv_of_check (by decide), by decide, by decide, by decide, rfl⟩

theorem witness_RepeatedBoundaryCheckIsHarmless : ∃ s t u : State, s.Inv ∧ s.cap.storIdx ≠ s.cap.procIdx ∧
    s.cfg.maxBitPeriod.toNat < s.ext s.port.c s.cap.lastRise ∧ exec .bchk s = .next t ∧ t.faults.ovr = false ∧
    execWith .bchk (onC 9000) t = .next u :=
  ⟨{ threePulses with port := onC 7101 }, _, _, State.inv_of_check (by decide), by decide, by decide, rfl, by decide, rfl⟩

/-- A window and a pulse behind it, and the next edge of capture. -/
theorem witness_CaptureNeverDisturbsTheWindow : Instr.fall.context = .interrupt ∧
    (windowOf [(1000, 700), (6900, 300)]).Inv ∧ 0 ∈ (windowOf [(1000, 700), (6900, 300)]).window ∧
    ∃ t, exec .fall (windowOf [(1000, 700), (6900, 300)]) = .next t :=
  ⟨rfl, State.inv_of_check (by decide), by decide, _, rfl⟩

theorem witness_CaptureIgnoresTheTransmitSide : ∃ t, execWith .rise (onC 5) flying = .next t := ⟨_, rfl⟩

/-- The greatest `C`, each operation, and BCHK where it fires. -/
theorem witness_StoredCountsFitSampleBits : threePulses.Inv ∧
    threePulses.cap.lastRise ≤ threePulses.cap.ovf * threePulses.params.timerMod + (onC 65535).c ∧
    (∃ t, execWith .rise (onC 65535) threePulses = .next t) ∧ (∃ t, execWith .fall (onC 65535) threePulses = .next t) ∧
    ∃ t, execWith .bchk (onC 65535) threePulses = .next t ∧ (t.slot 2).period = 63435 :=
  ⟨State.inv_of_check (by decide), by decide, ⟨_, rfl⟩, ⟨_, rfl⟩, _, rfl, by decide⟩

theorem witness_ModeIsTheSmallestMostFrequentValue : [1000, 6900] ≠ ([] : List Nat) ∧ mode0 [6900, 1000] = 1000 := by decide

/-- The boundary of the class (E1). -/
theorem witness_ClassAndSymbolFollowTheDutyCycle : 0 < 1000 ∧ classify 499 1000 = .short ∧ classify 500 1000 = .long := by
  decide

theorem witness_BuildDiscardsAZeroModeWindow : State.reset.cap.procIdx = State.reset.cap.tgtIdx ∧
    (windowOf [(0, 100), (8900, 200)]).cap.procIdx ≠ (windowOf [(0, 100), (8900, 200)]).cap.tgtIdx ∧
    mode0 (((windowOf [(0, 100), (8900, 200)]).window.map (windowOf [(0, 100), (8900, 200)]).slot).map Sample.period) = 0 := by
  decide

theorem witness_BuildClearsItsWindow : (windowOf [(1000, 700), (6900, 300)]).Inv ∧
    (windowOf [(1000, 700), (6900, 300)]).cap.procIdx ≠ (windowOf [(1000, 700), (6900, 300)]).cap.tgtIdx :=
  ⟨State.inv_of_check (by decide), by decide⟩

/-- A window of one sample and the three cases of the accumulator: empty with `IGNORE_SYNC`, full, and neither. -/
def oneSample (sync : U32) (n : Nat) : State :=
  { windowOf [(1000, 500)] with
    cfg := { State.reset.cfg with ignoreSync := sync }, acc := { Acc.clear with nsamp := n, len := n } }

theorem witness_BuildTakesASingleSample :
    (oneSample 1#32 0).Inv ∧ (oneSample 0#32 65).Inv ∧ (oneSample 0#32 64).Inv ∧
    (∀ s ∈ [oneSample 1#32 0, oneSample 0#32 65, oneSample 0#32 64],
      (s.cap.tgtIdx + s.params.sampleCap - s.cap.procIdx) % s.params.sampleCap = 1) ∧ 0 < ((oneSample 0#32 64).slot 0).period ∧
    ((oneSample 1#32 0).acc.nsamp = 0 ∧ (oneSample 1#32 0).cfg.ignoreSync = 1#32) ∧
    (oneSample 0#32 65).acc.len = 65 ∧ (oneSample 0#32 64).acc.len < 65 ∧ (oneSample 0#32 64).acc.nsamp ≠ 0 :=
  ⟨State.inv_of_check (by decide), State.inv_of_check (by decide), State.inv_of_check (by decide), by decide,
    by decide, by decide, by decide, by decide, by decide⟩

/-- The greatest period that is no gap (V14), above `TIMEOUT_US`, with room; a full word with one place left; and a
gap that is the synchronization sample (V20). -/
theorem witness_WindowWithoutGapCarriesOver :
    (∃ s : State, s.Inv ∧ mode0 ((s.window.map s.slot).map Sample.period) = 1000 ∧ s.cfg.ignoreSync = 0#32 ∧
      s.acc.len + (s.window.map s.slot).length ≤ 65 ∧ (∀ x ∈ s.window.map s.slot, 10 * x.period ≤ 13 * 1000) ∧
      s.cfg.timeoutUs.toNat < (s.slot 2).period) ∧
    (∃ s : State, s.Inv ∧ mode0 ((s.window.map s.slot).map Sample.period) = 1000 ∧ s.acc.nsamp ≠ 0 ∧
      s.acc.len + 1 = 65 ∧ 65 < s.acc.len + (s.window.map s.slot).length ∧
      ∀ x ∈ s.window.map s.slot, 10 * x.period ≤ 13 * 1000) ∧
    ∃ s : State, s.Inv ∧ mode0 ((s.window.map s.slot).map Sample.period) = 1000 ∧ s.acc.nsamp = 0 ∧
      s.cfg.ignoreSync = 1#32 ∧ 13 * 1000 < 10 * (s.slot 0).period ∧
      ∀ x ∈ (s.window.map s.slot).tail, 10 * x.period ≤ 13 * 1000 :=
  ⟨⟨{ windowOf [(1000, 700), (1000, 300), (1300, 700)] with cfg := { State.reset.cfg with timeoutUs := 1200#32 } },
      State.inv_of_check (by decide), by decide, by decide, by decide, by decide, by decide⟩,
    ⟨{ windowOf [(1000, 700), (1000, 300)] with acc := { Acc.clear with nsamp := 64, len := 64 } },
      State.inv_of_check (by decide), by decide, by decide, by decide, by decide, by decide⟩,
    ⟨{ windowOf [(6900, 700), (1000, 700), (1000, 300)] with cfg := { State.reset.cfg with ignoreSync := 1#32 } },
      State.inv_of_check (by decide), by decide, by decide, by decide, by decide, by decide⟩⟩

/-- The word "10" carried over from an earlier window (V18). -/
def carried : Acc where
  nsamp := 2
  len := 2
  bits := Acc.clear.bits.set 0 true
  recs := (Acc.clear.recs.set 0 { cls := .long, width := 700, period := 1000 }).set 1
    { cls := .short, width := 300, period := 1000 }

/-- The data samples of a stretch as one word: the last is a gap and no other is. -/
def isWord (pm : Nat) (d : List Sample) : Bool :=
  d.dropLast.all (fun x => decide (10 * x.period ≤ 13 * pm)) && d.getLast?.any fun x => decide (13 * pm < 10 * x.period)

theorem stretches_of_check {pm : Nat} {data : Nat → List Sample → List Sample} {ends : List (List Sample)}
    (h : (ends.mapIdx fun j xs => isWord pm (data j xs)).all id = true) (j : Nat) (xs : List Sample)
    (hj : ends[j]? = some xs) : ∃ before last, data j xs = before ++ [last] ∧
      (∀ x ∈ before, 10 * x.period ≤ 13 * pm) ∧ 13 * pm < 10 * last.period := by
  have hw : isWord pm (data j xs) = true :=
    List.all_eq_true.mp h _ (List.mem_of_getElem? (i := j) (by rw [List.getElem?_mapIdx, hj]; rfl))
  simp only [isWord, Bool.and_eq_true, List.all_eq_true, decide_eq_true_eq] at hw
  cases hd : data j xs with
  | nil => simp [hd] at hw
  | cons y ys =>
    rw [hd, List.getLast?_eq_some_getLast (List.cons_ne_nil y ys)] at hw
    exact ⟨_, _, (List.dropLast_append_getLast (List.cons_ne_nil y ys)).symm, hw.1, by simpa using hw.2⟩

/-- What the statement GapsCutTheWindowIntoWords asks of a window cut into `ends` and `rest`. -/
def Cut (s : State) (ends : List (List Sample)) (rest : List Sample) : Prop :=
  let samples := s.window.map s.slot
  let pm := mode0 (samples.map Sample.period)
  let data : Nat → List Sample → List Sample := fun j xs =>
    if (j = 0 → s.acc.nsamp = 0) ∧ s.cfg.ignoreSync = 1#32 then xs.tail else xs
  s.Inv ∧ 0 < pm ∧ samples = ends.flatten ++ rest ∧
    (∀ j xs, ends[j]? = some xs → ∃ before last, data j xs = before ++ [last] ∧
      (∀ x ∈ before, 10 * x.period ≤ 13 * pm) ∧ 13 * pm < 10 * last.period) ∧
    ∀ x ∈ data ends.length rest, 10 * x.period ≤ 13 * pm

/-- The complete sample of a period and a width. -/
def sample (x : Nat × Nat) : Sample := { period := x.1, width := x.2, valid := true }

/-- A window with `IGNORE_SYNC = 1`. -/
def synced (xs : List (Nat × Nat)) : State := { windowOf xs with cfg := { State.reset.cfg with ignoreSync := 1#32 } }

/-- Two words (V14) and samples after a gap; a carried word (V18); one that overflows at its gap; with `IGNORE_SYNC = 1`
two words, and a synchronization sample that is itself a gap (V20) before a word and a rest. -/
theorem witness_GapsCutTheWindowIntoWords :
    Cut (windowOf [(1000, 700), (1300, 300), (1301, 700), (6900, 300), (1000, 700)])
      [[(1000, 700), (1300, 300), (1301, 700)].map sample, [(6900, 300)].map sample] ([(1000, 700)].map sample) ∧
    Cut { windowOf [(1000, 700), (6900, 700)] with acc := carried } [[(1000, 700), (6900, 700)].map sample] [] ∧
    Cut { windowOf [(1000, 700), (6900, 700)] with acc := { Acc.clear with nsamp := 64, len := 64 } }
      [[(1000, 700), (6900, 700)].map sample] [] ∧
    Cut (synced [(1000, 700), (1000, 300), (6900, 700), (1000, 700), (6900, 300)])
      [[(1000, 700), (1000, 300), (6900, 700)].map sample, [(1000, 700), (6900, 300)].map sample] [] ∧
    Cut (synced [(6900, 700), (1000, 700), (1000, 300), (6900, 300), (1000, 700)])
      [[(6900, 700), (1000, 700), (1000, 300), (6900, 300)].map sample] ([(1000, 700)].map sample) :=
  ⟨⟨State.inv_of_check (by decide), by decide, by decide, stretches_of_check (by decide), by decide⟩,
    ⟨State.inv_of_check (by decide), by decide, by decide, stretches_of_check (by decide), by decide⟩,
    ⟨State.inv_of_check (by decide), by decide, by decide, stretches_of_check (by decide), by decide⟩,
    ⟨State.inv_of_check (by decide), by decide, by decide, stretches_of_check (by decide), by decide⟩,
    ⟨State.inv_of_check (by decide), by decide, by decide, stretches_of_check (by decide), by decide⟩⟩

/-- E2: the window the spec works out for `"1010110"`; and with `IGNORE_SYNC = 1` the shortest string, whose one data
symbol is the gap sample. -/
theorem witness_DutyRoundTripRecoversTheWord :
    (let s := windowOf [(1000, 700), (1000, 300), (1000, 700), (1000, 300), (1000, 700), (1000, 700), (6000, 300)]
    let str := [true, false, true, false, true, true, false]
    let ds := [700#32, 300#32, 700#32, 300#32, 700#32, 700#32, 300#32, 0#32]
    s.Inv ∧ s.acc = Acc.clear ∧ s.cfg.ignoreSync = 0#32 ∧ 2 ≤ str.length ∧ str.length ≤ 65 ∧
    2 * s.cfg.txShort.toNat < 1000 ∧ 1000 ≤ 2 * s.cfg.txLong.toNat ∧ 13 * 1000 < 10 * 6000 ∧
    prepare s.cfg (str.map fun b => if b then 0x31#8 else 0x30#8) = some ds ∧
    s.window.map s.slot = (List.range str.length).map (fun j =>
      { period := if j + 1 = str.length then 6000 else 1000, width := (ds.getD j 0#32).toNat, valid := true })) ∧
    (let s := { windowOf [(1000, 700), (6000, 300)] with cfg := { State.reset.cfg with ignoreSync := 1#32 } }
    s.Inv ∧ s.acc = Acc.clear ∧ s.cfg.ignoreSync = 1#32 ∧
    2 * s.cfg.txShort.toNat < 1000 ∧ 1000 ≤ 2 * s.cfg.txLong.toNat ∧ 6000 ≤ s.cfg.timeoutUs.toNat ∧
    prepare s.cfg ([true, false].map fun b => if b then 0x31#8 else 0x30#8) = some [700#32, 300#32, 0#32] ∧
    s.window.map s.slot = (List.range 2).map (fun j =>
      { period := if j + 1 = 2 then 6000 else 1000
        width := ([700#32, 300#32, 0#32].getD j 0#32).toNat, valid := true })) :=
  ⟨⟨State.inv_of_check (by decide), by decide, by decide, by decide, by decide, by decide, by decide, by decide,
      by decide, by decide⟩,
    ⟨State.inv_of_check (by decide), by decide, by decide, by decide, by decide, by decide, by decide, by decide⟩⟩

/-- `MAX_WORD_LEN = 4` with a synchronization symbol present: one below the least length, the greatest, one above it
(V25, V27). -/
theorem witness_SubmitDropsExactlyBadLengths :
    let cfg := { State.reset.cfg with maxWordLen := 4#32 }
    (cand [true, true, true, true, true, true]).bits.length ≤ 65 ∧ cfg.ignoreSync = 0#32 ∧
    ¬cfg.minWordLen.toNat ≤ (cand []).bits.length ∧
    (cfg.minWordLen.toNat ≤ (cand [true, true, true, true, true]).bits.length ∧
      (cand [true, true, true, true, true]).bits.length ≤ cfg.maxWordLen.toNat + 1) ∧
    ¬(cand [true, true, true, true, true, true]).bits.length ≤ cfg.maxWordLen.toNat + 1 := by decide

/-- Stale at exactly 100 ms, not stale at 99 (V28, V29). -/
theorem witness_SubmitStoresTheCandidate : (cand [true]).bits.length ≤ 65 ∧
    State.reset.cfg.minWordLen.toNat ≤ (cand [true]).bits.length ∧
    (cand [true]).bits.length ≤ State.reset.cfg.maxWordLen.toNat + 1 ∧ State.reset.cfg.ignoreSync = 0#32 ∧
    State.reset.isStale 100#32 = true ∧ State.reset.isStale 99#32 = false := by decide

/-- A ring with a winning slot and one without. -/
theorem witness_ScanFindsTheFirstWinningSlot :
    (holding 3 (cand [true]) 0#32).corr.scan 3 = some (0, cand [true]) ∧
    (holding 3 (cand [true]) 0#32).corr.scan 4 = none := by decide

/-- A submission whose scan finds nothing, and one whose scan confirms. -/
theorem witness_ConfirmationFollowsTheScan :
    lengthOk State.reset.cfg 1 = true ∧
    (∃ t, execWith .submit (onK 1 (cand [true])) (holding 1 (cand [true]) 0#32) = .next t ∧ t.result = 0x11#8) ∧
    (∃ t, execWith .submit (onK 1 (cand [true])) (holding 2 (cand [true]) 0#32) = .next t ∧ t.result = 0x12#8) :=
  ⟨by decide, ⟨_, rfl, by decide⟩, ⟨_, rfl, by decide⟩⟩

/-- E3. -/
theorem witness_ThreeSubmissionsConfirmOnce : State.reset.cfg.matchThresh = 3#32 ∧ (cand [true, false, true]).length ≤ 65 ∧
    lengthOk State.reset.cfg (cand [true, false, true]).length = true ∧
    (∀ j : Fin 12, State.reset.corr.slots[j.val] = none) ∧ State.reset.corr.lc = none ∧
    elapsed 1#32 0#32 * 1000 < State.reset.cfg.timeoutUs.toNat := by decide

/-- V33, V34: thresholds 12 and 1, 2 on a ring just cleared, and timeout 0. -/
theorem witness_ThresholdExtremes : ∃ s : State, (∃ t, exec .submit s = .next t) ∧
    lengthOk s.cfg s.port.k.length = true ∧ s.isStale s.port.t = true ∧ s.cfg.timeoutUs = 0#32 ∧
    s.cfg.matchThresh.toNat ≤ 1 ∧
    ∃ u : State, lengthOk u.cfg u.port.k.length = true ∧ (∃ t, exec .submit u = .next t) ∧ 12 ≤ u.cfg.matchThresh.toNat :=
  ⟨{ State.reset with
      cfg := { State.reset.cfg with timeoutUs := 0#32, matchThresh := 1#32 }, port := onK 0 (cand [true]) },
    ⟨_, rfl⟩, by decide, by decide, by decide, by decide,
    { State.reset with cfg := { State.reset.cfg with matchThresh := 12#32 }, port := onK 0 (cand [true]) },
    by decide, ⟨_, rfl⟩, by decide⟩

/-- V38, V39: the gate at 9 and at 10 ms. -/
theorem witness_IdleSchedulerWaits : State.reset.tx.bstate = .idle ∧ elapsed 9#32 State.reset.tx.frm.lastFrameMs < 10 ∧
    State.reset.cfg.burstDelayMs = 10#32 ∧ 10 ≤ elapsed 10#32 State.reset.tx.frm.lastFrameMs ∧
    State.reset.queue.count = 0 := by decide

/-- V40, its first SCHED. -/
theorem witness_BadHeadEntryIsDiscarded : (queued [strBad]).tx.bstate = .idle ∧
    (queued [strBad]).cfg.burstDelayMs.toNat ≤ elapsed 10#32 (queued [strBad]).tx.frm.lastFrameMs ∧
    0 < (queued [strBad]).queue.count ∧ (queued [strBad]).queue.slots[0] = some strBad ∧
    ∃ b ∈ strBad, b ≠ 0x30#8 ∧ b ≠ 0x31#8 := by decide

/-- A string of the greatest length. -/
theorem witness_BurstStartsFromTheHeadEntry : ∃ s : State, ∃ str : List Byte, s.tx.bstate = .idle ∧
    s.cfg.burstDelayMs.toNat ≤ elapsed 10#32 s.tx.frm.lastFrameMs ∧ 0 < s.queue.count ∧
    s.queue.slots[0] = some str ∧ str.length ≤ 65 ∧ ∀ b ∈ str, b = 0x30#8 ∨ b = 0x31#8 :=
  ⟨queued [List.replicate 65 0x31#8], _, rfl, by decide, by decide, rfl, by decide, by decide⟩

/-- In flight; the first frame; the frame delay of 5 ms just run out, and one short of it. -/
theorem witness_ActiveSchedulerTriggersFrames : (flying.tx.bstate = .active ∧ flying.tx.fstate = .inFlight) ∧
    (between.tx.bstate = .active ∧ between.tx.fstate = .idle ∧ between.tx.frm.frameComplete = true) ∧
    between.cfg.frameDelayMs = 5#32 ∧ elapsed 20#32 between.tx.frm.lastFrameMs = 5 ∧
    elapsed 19#32 between.tx.frm.lastFrameMs = 4 ∧
    ∃ s : State, s.tx.bstate = .active ∧ s.tx.fstate = .idle ∧ s.tx.frm.frameComplete = false :=
  ⟨by decide, by decide, by decide, by decide, by decide, { flying with tx := { flying.tx with fstate := .idle } }, by decide⟩

/-- No frame in flight; `frames_sent` at the repeat count, and one above it. -/
theorem witness_CompletionEndsOrContinuesTheBurst : ¬(State.reset.tx.bstate = .active ∧ State.reset.tx.fstate = .inFlight) ∧
    (flying.tx.bstate = .active ∧ flying.tx.fstate = .inFlight) ∧
    flying.tx.frm.framesSent.toNat ≤ flying.cfg.repeatCount.toNat ∧ flying.cfg.repeatCount.toNat < (1#32 : U32).toNat := by
  decide

/-- A burst start with exclusion, its end, and a step that is neither. -/
theorem witness_RadioIsSwitchedOnlyAtBurstStartAndEnd :
    (∃ s t : State, execWith .sched (onT 10) s = .next t ∧ s.tx.bstate = .idle ∧ t.tx.bstate = .active ∧
      s.cfg.rxMode = 2#32) ∧
    (∃ s t : State, execWith .txdone (onT 24) s = .next t ∧ s.tx.bstate = .active ∧ t.tx.bstate = .idle ∧
      s.tx.rxExcl = true) ∧
    (∃ t, execWith .sched (onT 20) between = .next t ∧ between.tx.bstate = .active ∧ t.tx.bstate = .active) :=
  ⟨⟨{ queued [str10] with cfg := flying.cfg }, _, rfl, by decide, by decide, by decide⟩,
    ⟨{ flying with tx := { flying.tx with frm := { flying.tx.frm with framesSent := 1#32 } } }, _, rfl, by decide, by decide,
      by decide⟩, ⟨_, rfl, by decide, by decide⟩⟩

/-- P3: one more frame after the first, at the times of its lines 6 to 9. -/
theorem witness_BurstSendsItsFramesAndEnds : flying.tx.bstate = .active ∧ flying.tx.fstate = .inFlight ∧
    flying.cfg.repeatCount.toNat < 2 ^ 32 - 1 ∧
    flying.cfg.repeatCount.toNat + 1 - flying.tx.frm.framesSent.toNat = [15#32].length ∧
    ([] : List U32).length < flying.cfg.repeatCount.toNat + 1 - flying.tx.frm.framesSent.toNat ∧
    gives (frameRounds [15#32] flying) (fun t => t.tx.frm.framesSent == 1#32) = true := by decide

theorem witness_FrameInFlightWaitsForCompletion :
    (∃ t, execWith .setRxMode (onV 0) flying = .next t) ∧ flying.tx.bstate = .active ∧ flying.tx.fstate = .inFlight ∧
    ∃ s t : State, s.tx.bstate = .active ∧ s.cfg.repeatCount = 0xFFFFFFFF#32 ∧ exec .txdone s = .next t :=
  ⟨⟨_, rfl⟩, by decide, by decide,
    { flying with cfg := { flying.cfg with repeatCount := 0xFFFFFFFF#32 } }, _, by decide, by decide, rfl⟩

/-- Lengths 0, 1, 65 and 66, and a queue of 4 and of 5. -/
theorem witness_EnqueueChecksLengthThenRoom : (onS (List.replicate 66 0x31#8)).s.length ≤ 255 ∧
    (onS []).s.length = 0 ∧ 65 < (onS (List.replicate 66 0x31#8)).s.length ∧ 1 ≤ (onS [0x31#8]).s.length ∧
    (onS (List.replicate 65 0x31#8)).s.length ≤ 65 ∧ (queued (List.replicate 5 str10)).queue.count = 5 ∧
    (queued (List.replicate 4 str10)).queue.count < 5 := by decide

/-- A queue of 4 for ENQ, and an idle scheduler with the gate open for the attempt. -/
theorem witness_QueueIsFirstInFirstOut : (queued (List.replicate 4 str10)).Inv ∧
    (queued (List.replicate 4 str10)).queue.count < 5 ∧ 0 < (queued (List.replicate 4 str10)).queue.count ∧
    (queued (List.replicate 4 str10)).tx.bstate = .idle ∧
    (queued (List.replicate 4 str10)).cfg.burstDelayMs.toNat ≤
      elapsed 10#32 (queued (List.replicate 4 str10)).tx.frm.lastFrameMs ∧
    Instr.txdone ≠ .enq ∧ Instr.txdone ≠ .sched ∧ Instr.txdone ≠ .rst ∧
    ∃ t, exec .txdone (queued (List.replicate 4 str10)) = .next t :=
  ⟨State.inv_of_check (by decide), by decide, by decide, by decide, by decide, by decide, by decide, by decide, _, rfl⟩

/-- An empty queue, and strings of the least and the greatest length. -/
theorem witness_SixthEnqueueWaitsForOneAttempt : ({ State.reset with q := some 0#32 } : State).Inv ∧
    State.reset.queue.count = 0 ∧ State.reset.tx.bstate = .idle ∧
    State.reset.cfg.burstDelayMs.toNat ≤ elapsed 10#32 State.reset.tx.frm.lastFrameMs ∧
    ∀ x ∈ [[0x31#8], strBad, str10, str01, str10, List.replicate 65 0x31#8], 1 ≤ x.length ∧ x.length ≤ 65 :=
  ⟨State.inv_of_check (by decide), by decide, by decide, by decide, by decide⟩

/-- E7: 64 is accepted and 65 is not. -/
theorem witness_SetReplacesItsRegisterOrRejects : CfgReg.minWordLen ≠ .rxMode ∧
    (State.reset.cfg.legal .minWordLen 64#32 = true ∧ State.reset.params.allows .minWordLen 64#32 = true) ∧
    ¬(State.reset.cfg.legal .minWordLen 65#32 = true ∧ State.reset.params.allows .minWordLen 65#32 = true) := by decide

/-- No bounds listed; and one range, with its ends, the values beside them, and another register. -/
theorem witness_LegalValuesOfEachRegister : Params.vectors.extraBounds = [] ∧
    (let p := { Params.vectors with extraBounds := [{ reg := .txLong, lo := 701#32, hi := 800#32 }] }
    [700#32, 701#32, 800#32, 801#32].map (p.allows .txLong) = [true, false, false, true] ∧
      p.allows .txShort 750#32 = true) := ⟨rfl, by decide⟩

/-- V48, V49, V50: a legal mode within the extra bounds, and a value that is none. -/
theorem witness_ReceiveModeActsAtOnce : State.reset.params.allows .rxMode 2#32 = true ∧
    (onV 2).v = 2#32 ∧ ¬((onV 3).v = 0#32 ∨ (onV 3).v = 1#32 ∨ (onV 3).v = 2#32) := by decide

end Sys2Proof.Tests
end

