-- ==== Sys2Proof/Proofs/Scope.lean ====
section
/-! PROOFS. The statements of 00_scope.md: a step runs the decoded operation (R14), the statistical mode (R15), and the
extended counts that fit in `SAMPLE_BITS` bits (R11). -/

namespace Sys2Proof.Machine

/-! ### One step (R14, R73) -/

/-- The oldest issued operation is the next one, with its payload on the ports (R73, R101). -/
theorem fetch_of_inbox {s : State} {x : Issue} {rest : List Issue} (h : s.inbox = x :: rest) :
    s.fetch = some (x.word, { s with port := x.ports, inbox := rest }) := by
  unfold State.fetch
  rw [h]

theorem step_of_fetch {s s1 : State} {w : OpWord} {i : Instr} (hf : s.fetch = some (w, s1))
    (hd : decode w = .ok i) : step s = exec i s1 := by
  simp only [step, hf, hd]

/-- Settles O4: the fetch and the decoding of R73 are all that a step adds to `exec`. -/
theorem stepRunsTheDecodedOperation : Obligations.StepRunsTheDecodedOperation :=
  fun _ _ _ _ hin hd => step_of_fetch (fetch_of_inbox hin) hd

/-! ### The statistical mode (R15) -/

/-- `a` is as good a mode of `xs` as `b`: more frequent, or equally frequent and not greater. -/
def AsGoodMode (xs : List Nat) (a b : Nat) : Prop :=
  xs.count b ≤ xs.count a ∧ (xs.count b = xs.count a → a ≤ b)

theorem AsGoodMode.refl (xs : List Nat) (a : Nat) : AsGoodMode xs a a := ⟨le_rfl, fun _ => le_rfl⟩

theorem AsGoodMode.trans {xs : List Nat} {a b c : Nat} (hab : AsGoodMode xs a b) (hbc : AsGoodMode xs b c) :
    AsGoodMode xs a c := by
  obtain ⟨hcount, hle⟩ := hab
  obtain ⟨hcount', hle'⟩ := hbc
  exact ⟨hcount'.trans hcount, fun heq => (hle (by omega)).trans (hle' (by omega))⟩

/-- `betterMode` answers one of its two values, and one as good as both. -/
theorem betterMode_spec (xs : List Nat) (a x : Nat) :
    (betterMode xs a x = a ∨ betterMode xs a x = x) ∧
      AsGoodMode xs (betterMode xs a x) a ∧ AsGoodMode xs (betterMode xs a x) x := by
  unfold betterMode
  split
  · exact ⟨.inr rfl, ⟨by omega, by omega⟩, .refl xs x⟩
  · exact ⟨.inl rfl, .refl xs a, ⟨by omega, by omega⟩⟩

/-- Folding `betterMode` along `ys` answers the start or a member of `ys`, and one as good as all of them. -/
theorem foldl_betterMode_spec (xs ys : List Nat) (a : Nat) :
    ys.foldl (betterMode xs) a ∈ a :: ys ∧
      ∀ y ∈ a :: ys, AsGoodMode xs (ys.foldl (betterMode xs) a) y := by
  induction ys generalizing a with
  | nil => simp [AsGoodMode.refl]
  | cons x ys ih =>
    obtain ⟨hmem, hbest⟩ := ih (betterMode xs a x)
    obtain ⟨hpick, hleft, hright⟩ := betterMode_spec xs a x
    have hstart := hbest _ List.mem_cons_self
    have hsub : betterMode xs a x :: ys ⊆ a :: x :: ys := by
      intro y hy
      rcases List.mem_cons.mp hy with rfl | hy
      · rcases hpick with h | h <;> simp [h]
      · simp [hy]
    refine ⟨hsub hmem, fun y hy => ?_⟩
    rcases List.mem_cons.mp hy with rfl | hy
    · exact hstart.trans hleft
    · rcases List.mem_cons.mp hy with rfl | hy
      · exact hstart.trans hright
      · exact hbest y (List.mem_cons_of_mem _ hy)

theorem mode0_spec {xs : List Nat} (hne : xs ≠ []) : mode0 xs ∈ xs ∧ ∀ y ∈ xs, AsGoodMode xs (mode0 xs) y := by
  obtain ⟨x, ys, rfl⟩ := List.exists_cons_of_ne_nil hne
  obtain ⟨hmem, hbest⟩ := foldl_betterMode_spec (x :: ys) (x :: ys) x
  have hmem' : mode0 (x :: ys) ∈ x :: ys := by
    rcases List.mem_cons.mp hmem with h | h
    · exact List.mem_cons.mpr (.inl h)
    · exact h
  exact ⟨hmem', fun y hy => hbest y (List.mem_cons_of_mem _ hy)⟩

/-- Settles O31, by induction along the fold that computes the mode. -/
theorem modeIsTheSmallestMostFrequentValue : Obligations.ModeIsTheSmallestMostFrequentValue :=
  ⟨rfl, fun _ hne => mode0_spec hne⟩

/-! ### What a capture writes in the sample ring (R130, R131, R135, R139) -/

theorem slot_storeWidth (s : State) (w j : Nat) :
    (s.storeWidth w).slot j =
      if s.cap.storIdx = j ∧ s.cap.storIdx < s.cap.ring.length
      then { s.slot s.cap.storIdx with width := w, valid := true } else s.slot j := by
  simp only [State.slot, State.storeWidth_cap, getD_set_ring]

/-- A stored period is the period of one slot, and no width. -/
theorem slot_storePeriod_cases (s : State) (p j : Nat) :
    (((s.storePeriod p).slot j).period = (s.slot j).period ∨ ((s.storePeriod p).slot j).period = p) ∧
      ((s.storePeriod p).slot j).width = (s.slot j).width := by
  rw [slot_storePeriod]
  split
  · next h => exact ⟨.inr rfl, by rw [← h.1]⟩
  · exact ⟨.inl rfl, rfl⟩

/-- A stored width is the width of one slot, and no period. -/
theorem slot_storeWidth_cases (s : State) (w j : Nat) :
    ((s.storeWidth w).slot j).period = (s.slot j).period ∧
      (((s.storeWidth w).slot j).width = (s.slot j).width ∨ ((s.storeWidth w).slot j).width = w) := by
  rw [slot_storeWidth]
  split
  · next h => exact ⟨by rw [← h.1], .inr rfl⟩
  · exact ⟨rfl, .inl rfl⟩

/-- What one capture operation does to the ring, with the extended count `e`: it stores `e` as a period, stores `e` as
a width, or leaves the ring as it was. -/
inductive CaptureWrite (s : State) (e : Nat) (t : State) : Prop where
  | period (h : t.cap.ring = (s.storePeriod e).cap.ring)
  | width (h : t.cap.ring = (s.storeWidth e).cap.ring)
  | nothing (h : t.cap.ring = s.cap.ring)

theorem execRise_write {s t : State} (h : execRise s = .next t) :
    s.port.c < s.params.timerMod ∧ CaptureWrite s (s.ext s.port.c s.cap.lastRise) t := by
  simp only [execRise] at h
  split at h
  · next hc =>
    cases h
    exact ⟨hc, .period (by simp [advanceIfWidth_eq, State.slot])⟩
  · cases h

theorem execFall_write {s t : State} (h : execFall s = .next t) :
    s.port.c < s.params.timerMod ∧ CaptureWrite s (s.ext s.port.c s.cap.lastRise) t := by
  simp only [execFall] at h
  split at h
  · next hc =>
    cases h
    exact ⟨hc, .width (by simp [State.slot])⟩
  · cases h

theorem execBchk_write {s t : State} (h : execBchk s = .next t) :
    s.port.c < s.params.timerMod ∧ CaptureWrite s (s.ext s.port.c s.cap.lastRise) t := by
  simp only [execBchk] at h
  split at h
  · next hc =>
    refine ⟨hc, ?_⟩
    split at h
    · cases h
      exact .period (by simp [advanceIfWidth_eq, State.slot])
    · cases h
      exact .nothing (by simp)
  · cases h

/-- RISE, FALL and BCHK complete only on a capture value in its domain, and write at most their extended count. -/
theorem exec_capture_write {i : Instr} {s t : State} (hi : i = .rise ∨ i = .fall ∨ i = .bchk)
    (h : exec i s = .next t) :
    s.port.c < s.params.timerMod ∧ CaptureWrite s (s.ext s.port.c s.cap.lastRise) t := by
  rcases hi with rfl | rfl | rfl
  · exact execRise_write h
  · exact execFall_write h
  · exact execBchk_write h

theorem slot_eq_of_ring {s t : State} (h : t.cap.ring = s.cap.ring) (j : Nat) : t.slot j = s.slot j := by
  simp only [State.slot, h]

/-- After a capture every period and every width is the old one or the extended count. -/
theorem CaptureWrite.slot_cases {s t : State} {e : Nat} (h : CaptureWrite s e t) (j : Nat) :
    ((t.slot j).period = (s.slot j).period ∨ (t.slot j).period = e) ∧
      ((t.slot j).width = (s.slot j).width ∨ (t.slot j).width = e) := by
  cases h with
  | period h =>
    obtain ⟨hper, hwid⟩ := slot_storePeriod_cases s e j
    rw [slot_eq_of_ring h]
    exact ⟨hper, .inl hwid⟩
  | width h =>
    obtain ⟨hper, hwid⟩ := slot_storeWidth_cases s e j
    rw [slot_eq_of_ring h]
    exact ⟨.inl hper, hwid⟩
  | nothing h =>
    rw [slot_eq_of_ring h]
    exact ⟨.inl rfl, .inl rfl⟩

/-- Settles O30: a capture writes only its extended count, and an unraced one stays below the limit for which
well-formed parameters leave room in `SAMPLE_BITS` bits (R11). -/
theorem storedCountsFitSampleBits : Obligations.StoredCountsFitSampleBits := by
  intro i s t hinv hi hrace h j
  obtain ⟨hc, hwrite⟩ := exec_capture_write hi h
  have hfits : s.ext s.port.c s.cap.lastRise < 2 ^ s.params.sampleBits :=
    (State.ext_lt_countLimit hinv.cap hc hrace).trans (countLimit_fits hinv.params)
  obtain ⟨hper, hwid⟩ := hwrite.slot_cases j
  exact ⟨hper.imp_right fun heq => heq.trans_lt hfits, hwid.imp_right fun heq => heq.trans_lt hfits⟩

end Sys2Proof.Machine
end

/-! PROOFS. The statements of 10_state.md. First the layer they share: `Effect` says once every way in which a
completed operation can end (`exec_effect`). From it follow the output log (R48), the fault bits (R284 to R287), the
writers of each part (R52, R78, R86), and, with one lemma for each part of the state, the invariant and what it says of
every reachable state. -/

namespace Sys2Proof.Machine

/-! ### What an operation can do -/

/-- A sample written at the store cursor, and the draw counter the count left. -/
def State.stored (s : State) (x : Sample) (n : Nat) : State :=
  { s with cap := { s.cap with ring := s.cap.ring.set s.cap.storIdx x }, draws := n }

/-- The reference of the next count, and its overflow counter, start again (40_capture.md R131). -/
def State.restarted (s : State) (c : Nat) : State := { s with cap := { s.cap with ovf := 0, lastRise := c } }

/-- One more overflow counted (R137). -/
def State.overflowed (s : State) : State := { s with cap := { s.cap with ovf := s.cap.ovf + 1 } }

/-- The window boundary moved to the store cursor (R139). -/
def State.snapshot (s : State) : State := { s with cap := { s.cap with tgtIdx := s.cap.storIdx } }

/-- One more frame counted, the next one not complete (43_scheduler.md R207). -/
def State.nextFrame (s : State) : State :=
  { s with tx := { s.tx with frm := { s.tx.frm with
      framesSent := s.tx.frm.framesSent + 1#32, frameComplete := false } } }

/-- Everything that a completed operation can do, one constructor for each way it can end; of a capture, which slot
is written and not with what. -/
inductive Effect (s : State) : Instr → State → Prop
  /-- A result code and nothing else: a rejection, a wait, an empty window. -/
  | code {i : Instr} (c : Code) : Effect s i (s.returns c)
  | read {i : Instr} (v : U32) : Effect s i (s.drives v)
  | rise (x : Sample) (n : Nat) (hc : s.port.c < s.params.timerMod) :
      Effect s .rise (((s.stored x n).restarted s.port.c).advanceIfWidth.returns Code.ok)
  | fall (x : Sample) (n : Nat) : Effect s .fall ((s.stored x n).returns Code.ok)
  | overflow (hcap : s.cap.ovf < ovfCap s.params s.cfg.maxBitPeriod) : Effect s .ovf (s.overflowed.returns Code.ok)
  | noBoundary (n : Nat) : Effect s .bchk ({ s with draws := n }.returns Code.ok)
  | boundary (x : Sample) (n : Nat) : Effect s .bchk ((s.stored x n).advanceIfWidth.snapshot.returns Code.ok)
  | discard : Effect s .build (((s.raise .div0).clearWindow s.window).returns Code.ok)
  | words (pm : Nat) (xs : List Sample) :
      Effect s .build (((xs.foldl (processSample pm s.port.t) s).clearWindow s.window).returns Code.ok)
  | submit (c : Code) (hfit : s.port.k.length ≤ Config.symCap) :
      Effect s .submit ((submitCore s.port.k s.port.t s).1.returns c)
  | badHead (hsome : 0 < s.queue.count) : Effect s .sched (s.consumeHead.returns Code.prepFailed)
  | burst (ds : List U32) (hidle : s.tx.bstate = .idle) (hsome : 0 < s.queue.count)
      (hds : prepare s.cfg ((s.queue.slots[0]).getD []) = some ds) :
      Effect s .sched ((s.consumeHead.startBurst ds).returns Code.burstStarted)
  | firstFrame (hactive : s.tx.bstate = .active) (hopen : s.tx.frm.frameComplete = false) :
      Effect s .sched (s.triggerFrame.returns Code.frameTriggered)
  | repeatFrame (hactive : s.tx.bstate = .active) :
      Effect s .sched (s.nextFrame.triggerFrame.returns Code.frameTriggered)
  | frameDone : Effect s .txdone (s.completeFrame.returns Code.frameDone)
  | burstEnd : Effect s .txdone (s.completeFrame.endBurst.returns Code.burstEnded)
  | enqueue (hpos : s.port.s.length ≠ 0) (hfit : s.port.s.length ≤ Config.symCap)
      (hroom : s.queue.count ≠ Config.qCap) : Effect s .enq ((s.enqueue s.port.s).returns Code.ok)
  | configure (r : CfgReg) (hlegal : s.cfg.legal r s.port.v = true) :
      Effect s (setInstr r) ((s.setCfg r s.port.v).returns Code.ok)
  | receiveMode (hlegal : s.cfg.legal .rxMode s.port.v = true) :
      Effect s .setRxMode ((s.setCfg .rxMode s.port.v).applyRxMode.returns Code.ok)
  | reset : Effect s .rst { State.resetOf s.params with
      out := s.out ++ resetEvents s.params, port := s.port, inbox := s.inbox, draws := s.draws }

section
variable {s t : State}

theorem storePeriod_afterExt (s : State) (c ref p : Nat) :
    ∃ x n, (s.afterExt c ref).storePeriod p = s.stored x n := by
  rw [afterExt_eq]
  exact ⟨_, _, rfl⟩

theorem storeWidth_afterExt (s : State) (c ref w : Nat) :
    ∃ x n, (s.afterExt c ref).storeWidth w = s.stored x n := by
  rw [afterExt_eq]
  exact ⟨_, _, rfl⟩

theorem execRise_effect (h : execRise s = .next t) : Effect s .rise t := by
  simp only [execRise] at h
  split at h
  · next hc =>
    obtain ⟨x, n, hx⟩ := storePeriod_afterExt s s.port.c s.cap.lastRise (s.ext s.port.c s.cap.lastRise)
    rw [hx] at h
    cases h
    exact .rise x n hc
  · cases h

theorem execFall_effect (h : execFall s = .next t) : Effect s .fall t := by
  simp only [execFall] at h
  split at h
  · obtain ⟨x, n, hx⟩ := storeWidth_afterExt s s.port.c s.cap.lastRise (s.ext s.port.c s.cap.lastRise)
    rw [hx] at h
    cases h
    exact .fall x n
  · cases h

theorem execOvf_effect (h : execOvf s = .next t) : Effect s .ovf t := by
  simp only [execOvf] at h
  split at h
  · next hcap =>
    cases h
    exact .overflow hcap
  · cases h
    exact .code _

theorem execBchk_effect (h : execBchk s = .next t) : Effect s .bchk t := by
  simp only [execBchk] at h
  split at h
  · split at h
    · obtain ⟨x, n, hx⟩ := storePeriod_afterExt s s.port.c s.cap.lastRise (s.ext s.port.c s.cap.lastRise)
      rw [hx] at h
      cases h
      exact .boundary x n
    · rw [afterExt_eq] at h
      cases h
      exact .noBoundary _
  · cases h

theorem execBuild_effect (h : execBuild s = .next t) : Effect s .build t := by
  simp only [execBuild] at h
  split at h
  · cases h
    exact .code _
  · split at h
    · cases h
      exact .discard
    · cases h
      exact .words _ _

theorem execSubmit_effect (h : execSubmit s = .next t) : Effect s .submit t := by
  simp only [execSubmit] at h
  split at h
  · next hfit =>
    cases h
    exact .submit _ hfit
  · cases h

theorem schedIdle_effect (hidle : s.tx.bstate = .idle) : Effect s .sched (schedIdle s) := by
  unfold schedIdle
  split
  · exact .code _
  · split
    · exact .code _
    · next hsome =>
      split
      · exact .badHead (Nat.pos_of_ne_zero hsome)
      · next ds hds => exact .burst ds hidle (Nat.pos_of_ne_zero hsome) hds

theorem schedActive_effect (hactive : s.tx.bstate = .active) : Effect s .sched (schedActive s) := by
  unfold schedActive
  split
  · exact .code _
  · split
    · next hopen => exact .firstFrame hactive hopen
    · split
      · exact .repeatFrame hactive
      · exact .code _

theorem execSched_effect (h : execSched s = .next t) : Effect s .sched t := by
  unfold execSched at h
  split at h
  · next hidle =>
    cases h
    exact schedIdle_effect hidle
  · next hactive =>
    cases h
    exact schedActive_effect hactive

theorem execTxdone_effect (h : execTxdone s = .next t) : Effect s .txdone t := by
  simp only [execTxdone] at h
  split at h
  · split at h
    · cases h
      exact .burstEnd
    · cases h
      exact .frameDone
  · cases h
    exact .code _

theorem execEnq_effect (h : execEnq s = .next t) : Effect s .enq t := by
  simp only [execEnq] at h
  split at h
  · split at h
    · cases h
      exact .code _
    · next hlen =>
      split at h
      · cases h
        exact .code _
      · next hroom =>
        cases h
        exact .enqueue (by omega) (by omega) hroom
  · cases h

/-- RST leaves the reset state of the block's parameters, its two events behind the log; the model's own inputs and its
draw counter stand (70_reset_and_hazards.md R311). -/
theorem exec_rst (s : State) : exec .rst s = .next { State.resetOf s.params with
    out := s.out ++ resetEvents s.params, port := s.port, inbox := s.inbox, draws := s.draws } := by
  by_cases hoff : s.params.rstRxMode = 0#32 <;>
    simp [exec, execRst, State.resetFields, CfgRegs.reset, State.radioDisable, State.radioEnable, State.emit,
      State.returns, State.resetOf, Sched.reset, resetEvents, hoff]

/-- A value is accepted only if it is legal (45_config.md R237). -/
theorem legal_of_accepts {r : CfgReg} {v : U32} (h : s.accepts r v = true) : s.cfg.legal r v = true := by
  rw [State.accepts, Bool.and_eq_true] at h
  exact h.1

theorem setPlain_effect {i : Instr} {r : CfgReg} (h : setPlain r s = .next t) (hi : setInstr r = i) :
    Effect s i t := by
  subst hi
  unfold setPlain at h
  split at h
  · next hacc =>
    cases h
    exact .configure r (legal_of_accepts hacc)
  · cases h
    exact .code _

theorem execSetRxMode_effect (h : execSetRxMode s = .next t) : Effect s .setRxMode t := by
  unfold execSetRxMode at h
  split at h
  · next hacc =>
    cases h
    exact .receiveMode (legal_of_accepts hacc)
  · cases h
    exact .code _

theorem getCfg_effect {i : Instr} {r : CfgReg} (h : getCfg r s = .next t) : Effect s i t := by
  cases h
  exact .read _

theorem getView_effect {i : Instr} {r : ViewReg} (h : getView r s = .next t) : Effect s i t := by
  cases h
  exact .read _

/-- Every completed operation ends in one of the ways of `Effect`. -/
theorem exec_effect {i : Instr} (h : exec i s = .next t) : Effect s i t := by
  cases i with
  | rise => exact execRise_effect h
  | fall => exact execFall_effect h
  | ovf => exact execOvf_effect h
  | txdone => exact execTxdone_effect h
  | bchk => exact execBchk_effect h
  | build => exact execBuild_effect h
  | submit => exact execSubmit_effect h
  | sched => exact execSched_effect h
  | enq => exact execEnq_effect h
  | rst =>
    rw [exec_rst] at h
    cases h
    exact .reset
  | setRxMode => exact execSetRxMode_effect h
  | setTimeoutUs | setMatchThresh | setMinWordLen | setMaxWordLen | setMaxBitPeriod | setTxShort | setTxLong
  | setFrameDelayMs | setBurstDelayMs | setRepeatCount | setInvertLogic | setIgnoreSync =>
    exact setPlain_effect h rfl
  | getTimeoutUs | getMatchThresh | getMinWordLen | getMaxWordLen | getMaxBitPeriod | getTxShort | getTxLong
  | getFrameDelayMs | getBurstDelayMs | getRepeatCount | getInvertLogic | getIgnoreSync | getRxMode =>
    exact getCfg_effect h
  | getStatus | getQcount | getStorIdx | getProcIdx | getTgtIdx | getCorrWidx | getFramesSent | getOvfCount =>
    exact getView_effect h

/-- A step is idle, answers a reserved word as the illegal operation, or executes an operation, the next issue taken. -/
theorem step_cases (h : step s = .next t) : t = s ∨ ∃ port inbox,
    t = { s with port := port, inbox := inbox }.returns Code.illegalOp ∨
      ∃ i, exec i { s with port := port, inbox := inbox } = .next t := by
  cases hin : s.inbox with
  | nil =>
    simp only [step, State.fetch, hin] at h
    cases h
    exact .inl rfl
  | cons x rest =>
    simp only [step, fetch_of_inbox hin] at h
    refine .inr ⟨x.ports, rest, ?_⟩
    split at h
    · exact .inr ⟨_, h⟩
    · cases h
      exact .inl rfl
end

/-! ### The output log (R48) -/
section
variable {s t : State}

theorem submitCore_out (k : Candidate) (tm : U32) (s : State) : s.out <+: (submitCore k tm s).1.out := by
  rcases submitCore_cases k tm s with ⟨-, h⟩ | ⟨-, -, h⟩ | ⟨-, f, a, -, ⟨-, h⟩ | ⟨-, h⟩⟩ <;> rw [h]
  exact ⟨[confirmOf a], rfl⟩

theorem finalize_out (tm : U32) (s : State) : s.out <+: (finalize tm s).out := submitCore_out s.candidate tm s

theorem takeSymbol_out (pm : Nat) (s : State) (x : Sample) : (takeSymbol pm s x).out = s.out := by
  rw [takeSymbol_frame]

theorem processSample_out (pm : Nat) (tm : U32) (s : State) (x : Sample) :
    s.out <+: (processSample pm tm s x).out := by
  have hsym : (takeSymbol pm s x).countSample.out = s.out := takeSymbol_out pm s x
  unfold processSample
  dsimp only
  split
  · exact hsym ▸ finalize_out tm _
  · rw [hsym]

theorem processWindow_out (pm : Nat) (tm : U32) (xs : List Sample) (s : State) :
    s.out <+: (xs.foldl (processSample pm tm) s).out := by
  induction xs generalizing s with
  | nil => simp
  | cons x xs ih => exact (processSample_out pm tm s x).trans (ih _)

theorem startBurst_out (s : State) (ds : List U32) : s.out <+: (s.startBurst ds).out := by
  rw [startBurst_eq]
  dsimp only
  split <;> simp

theorem endBurst_out (s : State) : s.out <+: s.endBurst.out := by
  rw [endBurst_eq]
  dsimp only
  split <;> simp

theorem applyRxMode_out (s : State) : s.out <+: s.applyRxMode.out := by
  rw [applyRxMode_eq]
  exact ⟨_, rfl⟩

/-- Every way an operation can end leaves the log as it was or appends to it. -/
theorem Effect.out_grows {i : Instr} (h : Effect s i t) : s.out <+: t.out := by
  cases h with
  | code | read | fall | overflow | noBoundary | discard | badHead | frameDone | enqueue | configure =>
    simp [State.stored, State.overflowed]
  | rise | boundary => simp [State.stored, State.restarted, State.snapshot]
  | words pm xs => simpa using processWindow_out pm s.port.t xs s
  | submit => exact submitCore_out _ _ s
  | burst ds => simpa using startBurst_out s.consumeHead ds
  | firstFrame | repeatFrame => simp [State.nextFrame]
  | burstEnd => exact endBurst_out s.completeFrame
  | receiveMode => exact applyRxMode_out (s.setCfg .rxMode s.port.v)
  | reset => exact ⟨resetEvents s.params, rfl⟩

/-- Settles O10: every way an operation can end appends to the log. -/
theorem outputLogOnlyGrows : Obligations.OutputLogOnlyGrows := by
  intro i s t h
  obtain ⟨es, hes⟩ := (exec_effect h).out_grows
  exact ⟨es, hes.symm⟩

/-! ### The fault bits (R284 to R287) -/

/-- The fault bits `g` are the bits `f` and what the operation `i` may raise (R285 to R287). -/
structure RaisedBy (i : Instr) (f g : FaultBits) : Prop where
  ovr : g.ovr = f.ovr ∨ g.ovr = true ∧ (i = .rise ∨ i = .bchk)
  div0 : g.div0 = f.div0 ∨ g.div0 = true ∧ i = .build
  wovf : g.wovf = f.wovf ∨ g.wovf = true ∧ i = .build

theorem RaisedBy.refl (i : Instr) (f : FaultBits) : RaisedBy i f f := ⟨.inl rfl, .inl rfl, .inl rfl⟩

/-- A sample can raise `FAULT_WOVF` and no other bit (R287). -/
theorem processSample_faults (pm : Nat) (tm : U32) (s : State) (x : Sample) :
    (processSample pm tm s x).faults = s.faults ∨
      (processSample pm tm s x).faults = { s.faults with wovf := true } := by
  have hcount : (processSample pm tm s x).faults = (takeSymbol pm s x).faults := by
    unfold processSample
    dsimp only
    split
    · rw [finalize_frame]; rfl
    · rfl
  rw [hcount]
  rcases takeSymbol_cases pm s x with ⟨-, h⟩ | ⟨-, -, h⟩ | ⟨-, -, h⟩ <;> rw [h]
  · exact .inl rfl
  · exact .inr rfl
  · exact .inl rfl

theorem processWindow_faults (pm : Nat) (tm : U32) (xs : List Sample) (s : State) :
    (xs.foldl (processSample pm tm) s).faults = s.faults ∨
      (xs.foldl (processSample pm tm) s).faults = { s.faults with wovf := true } := by
  induction xs generalizing s with
  | nil => exact .inl rfl
  | cons x xs ih =>
    rw [List.foldl_cons]
    rcases ih (processSample pm tm s x) with h | h <;>
      rcases processSample_faults pm tm s x with h' | h' <;> simp [h, h']

theorem advanceIfWidth_faults (s : State) :
    s.advanceIfWidth.faults = s.faults ∨ s.advanceIfWidth.faults = { s.faults with ovr := true } := by
  rw [advanceIfWidth_eq]
  dsimp only
  split
  · exact .inr rfl
  · exact .inl rfl

/-- The advance of a RISE or a BCHK raises `FAULT_OVR` or nothing (R285). -/
theorem raisedBy_of_overrun {i : Instr} (hi : i = .rise ∨ i = .bchk) (u : State) :
    RaisedBy i u.faults u.advanceIfWidth.faults := by
  rcases advanceIfWidth_faults u with h | h <;> rw [h]
  · exact .refl i _
  · exact ⟨.inr ⟨rfl, hi⟩, .inl rfl, .inl rfl⟩

/-- Every operation but RST keeps the fault bits and raises at most its own. -/
theorem Effect.raisedBy {i : Instr} (h : Effect s i t) (hrst : i ≠ .rst) : RaisedBy i s.faults t.faults := by
  cases h with
  | rise x n => exact raisedBy_of_overrun (.inl rfl) ((s.stored x n).restarted s.port.c)
  | boundary x n => exact raisedBy_of_overrun (.inr rfl) (s.stored x n)
  | discard => exact ⟨.inl rfl, .inr ⟨rfl, rfl⟩, .inl rfl⟩
  | words pm xs =>
    rcases processWindow_faults pm s.port.t xs s with h | h <;>
      simp only [State.returns_faults, State.clearWindow_faults, h]
    · exact .refl _ _
    · exact ⟨.inl rfl, .inl rfl, .inr ⟨rfl, rfl⟩⟩
  | submit =>
    rw [State.returns_faults, submitCore_frame]
    exact .refl _ _
  | reset => exact absurd rfl hrst
  | code | read | fall | overflow | noBoundary | badHead | burst | firstFrame | repeatFrame | frameDone | burstEnd
  | enqueue | configure | receiveMode =>
    simpa [State.stored, State.overflowed, State.nextFrame] using RaisedBy.refl _ s.faults

/-- Settles O11: every way an operation can end raises at most the bits named for it, and RST writes all three. -/
theorem faultBitsAreStickyAndNamed : Obligations.FaultBitsAreStickyAndNamed := by
  intro i s t h
  by_cases hi : i = .rst
  · subst hi
    rw [exec_rst] at h
    cases h
    simp [State.resetOf, FaultBits.reset]
  · obtain ⟨hovr, hdiv0, hwovf⟩ := (exec_effect h).raisedBy hi
    refine ⟨fun _ => ⟨fun hs => ?_, fun hs => ?_, fun hs => ?_⟩, fun h => absurd h hi, fun hs ht => ?_, fun hs ht => ?_,
      fun hs ht => ?_⟩
    · exact hovr.elim (fun e => e.trans hs) And.left
    · exact hdiv0.elim (fun e => e.trans hs) And.left
    · exact hwovf.elim (fun e => e.trans hs) And.left
    · exact hovr.elim (fun e => by simp [hs, ht] at e) And.right
    · exact hdiv0.elim (fun e => by simp [hs, ht] at e) And.right
    · exact hwovf.elim (fun e => by simp [hs, ht] at e) And.right

/-! ### The writers of each part (R52, R78, R86) -/

/-- Settles O14, by the ways an operation can end: each leaves the parts it has no writer of as they were. -/
theorem eachPartHasItsWriters : Obligations.EachPartHasItsWriters := by
  intro i s t h
  cases exec_effect h with
  | code | read | discard | frameDone | burstEnd | enqueue | configure | reset => simp
  | rise | fall | overflow | noBoundary | boundary =>
    simp [State.stored, State.restarted, State.overflowed, State.snapshot]
  | words pm xs =>
    rw [processWindow_frame]
    simp
  | submit =>
    rw [submitCore_frame]
    simp
  | badHead | burst | firstFrame | repeatFrame => simp [State.nextFrame]
  | receiveMode =>
    have hset : ∃ r, Instr.setRxMode = setInstr r := ⟨.rxMode, rfl⟩
    simp [hset]
end

/-! ### `STATUS` (R49) -/

theorem getLsbD_flagAt (b : Bool) {i : Nat} (hi : i < 32) (k : Nat) :
    (flagAt b i).getLsbD k = (b && decide (i = k)) := by
  cases b with
  | false => simp [flagAt]
  | true =>
    have htwo : flagAt true i = BitVec.twoPow 32 i := by simp [flagAt, BitVec.twoPow]
    simp [htwo, BitVec.getLsbD_twoPow, hi]

/-- Bit `k` of `STATUS`: the flag at that position, if there is one (R49). -/
theorem getLsbD_status (s : State) (k : Nat) : s.status.getLsbD k =
    (s.tx.txActive && decide (0 = k) || s.tx.frm.burstComplete && decide (1 = k) || s.frameInFlight && decide (2 = k)
      || s.tx.frm.frameComplete && decide (3 = k) || s.tx.rxExcl && decide (4 = k) || s.tx.radioOn && decide (5 = k)
      || s.faults.ovr && decide (8 = k) || s.faults.div0 && decide (9 = k) || s.faults.wovf && decide (10 = k)) := by
  simp [State.status, getLsbD_flagAt]

/-- Settles O15: each bit of `STATUS`, read by `getLsbD_status`. -/
theorem statusBitsAreViewsOfTheState : Obligations.StatusBitsAreViewsOfTheState := by
  intro s
  refine ⟨s.status, rfl, ?_⟩
  simp only [getLsbD_status]
  refine ⟨by simp, by simp, by simp [State.frameInFlight], by simp, by simp, by simp, by simp, by simp, by simp, ?_⟩
  intro k hk
  have hfree : 0 ≠ k ∧ 1 ≠ k ∧ 2 ≠ k ∧ 3 ≠ k ∧ 4 ≠ k ∧ 5 ≠ k ∧ 8 ≠ k ∧ 9 ≠ k ∧ 10 ≠ k := by omega
  simp [hfree]

/-! ### Nothing issued, and reset (R54, R312) -/

/-- Settles O6: with an empty issue queue nothing is fetched. -/
theorem nothingIssuedNothingDone : Obligations.NothingIssuedNothingDone := by
  intro s hin
  simp [step, State.fetch, hin]

/-- Settles O20: the reset values of the parts, read field by field. -/
theorem resetValueOfEveryField : Obligations.ResetValueOfEveryField := by
  rintro p s rfl
  simp [State.resetOf, Capture.reset, Sample.clean, Acc.clear, PosRec.clear, CfgRegs.reset, Corr.reset, Sched.reset,
    Frame.reset, TxQueue.reset, FaultBits.reset]

/-! ### Legal register values (R31) -/

theorem toNat_le_one (v : U32) : v.toNat ≤ 1 ↔ v = 0#32 ∨ v = 1#32 := by bv_omega

theorem toNat_le_two (v : U32) : v.toNat ≤ 2 ↔ v = 0#32 ∨ v = 1#32 ∨ v = 2#32 := by bv_omega

/-- The extra bounds forbid exactly the values in the ranges listed for the register (45_config.md R238). -/
theorem allows_eq_false {p : Params} {r : CfgReg} {v : U32} : p.allows r v = false ↔
    ∃ b ∈ p.extraBounds, b.reg = r ∧ b.lo.toNat ≤ v.toNat ∧ v.toNat ≤ b.hi.toNat := by
  simp [Params.allows, and_assoc]

/-- Settles O57: the condition of each register, and the extra bounds by `allows_eq_false`. -/
theorem legalValuesOfEachRegister : Obligations.LegalValuesOfEachRegister := by
  refine ⟨fun c v => ?_, fun p r v => ⟨allows_eq_false, fun hnone => ?_⟩⟩
  · simp only [CfgRegs.legal, decide_eq_true_eq, toNat_le_one, toNat_le_two, and_self]
  · simp [Params.allows, hnone]

/-! ### The invariant of the sample ring (R28, R133) -/
section
variable {p : Params} {c : Capture}

/-- The stored region is never the whole ring (R28). -/
theorem Capture.Wf.stored_lt (h : c.Wf p) : ringDist p.sampleCap c.procIdx c.storIdx < p.sampleCap :=
  ringDist_lt (Nat.zero_lt_of_lt h.stor_in_ring) _ _

theorem Capture.Wf.step_ne_stor (h : c.Wf p) {k : Nat} (hk : k < p.sampleCap)
    (hne : k ≠ ringDist p.sampleCap c.procIdx c.storIdx) : c.storIdx ≠ (c.procIdx + k) % p.sampleCap := by
  intro heq
  exact hne (by rw [heq, ringDist_step h.proc_in_ring hk])

/-- The slot at the store cursor is free to be written: the ring discipline says nothing of it (R133). -/
theorem Capture.Wf.write (h : c.Wf p) (x : Sample) :
    Capture.Wf p { c with ring := c.ring.set c.storIdx x } where
  ring_size := by simpa using h.ring_size
  stor_in_ring := h.stor_in_ring
  proc_in_ring := h.proc_in_ring
  tgt_in_ring := h.tgt_in_ring
  rise_in_timer := h.rise_in_timer
  ovf_capped := h.ovf_capped
  window_stored := h.window_stored
  stored_complete k hk := by
    rw [getD_set_ring, if_neg fun hs => h.step_ne_stor (hk.trans h.stored_lt) (Nat.ne_of_lt hk) hs.1]
    exact h.stored_complete k hk
  rest_clean k hk hd := by
    rw [getD_set_ring, if_neg fun hs => h.step_ne_stor hk (Nat.ne_of_gt hd) hs.1]
    exact h.rest_clean k hk hd

/-- Advancing the store cursor, but not onto the consumer's, makes the stored region one slot longer (R134). -/
theorem ringDist_nextIdx {n a b : Nat} (ha : a < n) (hb : b < n) (hne : nextIdx n b ≠ a) :
    ringDist n a (nextIdx n b) = ringDist n a b + 1 := by
  rw [nextIdx_eq hb] at hne ⊢
  rw [ringDist_eq ha hb, ringDist_eq ha (by split <;> omega)]
  split_ifs at hne ⊢ <;> omega

/-- A complete sample at the store cursor may join the stored region (R133, R134). -/
theorem Capture.Wf.advance (h : c.Wf p) (hvalid : (c.ring.getD c.storIdx Sample.clean).valid = true)
    (hne : nextIdx p.sampleCap c.storIdx ≠ c.procIdx) :
    Capture.Wf p { c with storIdx := nextIdx p.sampleCap c.storIdx } := by
  have hdist := ringDist_nextIdx h.proc_in_ring h.stor_in_ring hne
  have hpos : 0 < p.sampleCap := Nat.zero_lt_of_lt h.stor_in_ring
  refine ⟨h.ring_size, Nat.mod_lt _ hpos, h.proc_in_ring, h.tgt_in_ring, h.rise_in_timer, h.ovf_capped, ?_, ?_, ?_⟩
  · exact hdist ▸ Nat.le_succ_of_le h.window_stored
  · intro k hk
    rcases Nat.lt_succ_iff_lt_or_eq.mp (hdist ▸ hk) with hk | rfl
    · exact h.stored_complete k hk
    · dsimp only
      rw [ringStep_dist h.proc_in_ring h.stor_in_ring]
      exact hvalid
  · intro k hk hd
    exact h.rest_clean k hk (by dsimp only at hd; omega)

theorem Capture.Wf.restart (h : c.Wf p) {r : Nat} (hr : r < p.timerMod) :
    Capture.Wf p { c with ovf := 0, lastRise := r } :=
  { h with rise_in_timer := hr, ovf_capped := Nat.zero_le _ }

theorem ovfCap_le (p : Params) (m : U32) : ovfCap p m ≤ (2 ^ 32 - 1) / p.timerMod + 2 :=
  Nat.add_le_add_right (Nat.div_le_div_right (by have := m.isLt; omega)) 2

theorem Capture.Wf.overflow (h : c.Wf p) {m : U32} (hcap : c.ovf < ovfCap p m) :
    Capture.Wf p { c with ovf := c.ovf + 1 } :=
  { h with ovf_capped := Nat.le_trans hcap (ovfCap_le p m) }

/-- The whole stored region becomes the window (R139). -/
theorem Capture.Wf.snapshot (h : c.Wf p) : Capture.Wf p { c with tgtIdx := c.storIdx } :=
  { h with tgt_in_ring := h.stor_in_ring, window_stored := Nat.le_refl _ }

/-- A slot nearer than a point in the region is as much nearer to a later start. -/
theorem ringDist_sub {n a b d : Nat} (ha : a < n) (hb : b < n) (hd : d < n)
    (hle : ringDist n a b ≤ ringDist n a d) : ringDist n b d = ringDist n a d - ringDist n a b := by
  rw [ringDist_eq ha hb, ringDist_eq ha hd] at *
  rw [ringDist_eq hb hd]
  split_ifs at * <;> omega

/-- Stepping from the end of a window is stepping further from its start. -/
theorem ringStep_add {n a b : Nat} (ha : a < n) (hb : b < n) (k : Nat) :
    (b + k) % n = (a + (ringDist n a b + k)) % n := by
  conv_lhs => rw [← ringStep_dist ha hb]
  rw [Nat.mod_add_mod, Nat.add_assoc]

/-- Clearing the window and consuming it keeps the ring discipline: the rest of the stored region is untouched, and the
window's slots join the clean ones (41_wordbuilder.md R161). -/
theorem Capture.Wf.consume (h : c.Wf p) : Capture.Wf p { c with
    ring := (windowSlots p.sampleCap c.procIdx c.tgtIdx).foldl (fun r i => r.set i Sample.clean) c.ring
    procIdx := c.tgtIdx } := by
  have hp := h.proc_in_ring
  have ht := h.tgt_in_ring
  have hdist := ringDist_sub hp ht h.stor_in_ring h.window_stored
  refine ⟨by simpa using h.ring_size, h.stor_in_ring, ht, ht, h.rise_in_timer, h.ovf_capped, ?_, ?_, ?_⟩
  · dsimp only
    rw [ringDist_eq ht ht]
    simp
  · intro k hk
    have hk : ringDist p.sampleCap c.procIdx c.tgtIdx + k < ringDist p.sampleCap c.procIdx c.storIdx := by
      dsimp only at hk
      omega
    dsimp only
    rw [getD_clear_ring, ringStep_add hp ht, if_neg]
    · exact h.stored_complete _ hk
    · rw [mem_windowSlots hp, ringDist_step hp (hk.trans h.stored_lt)]
      omega
  · intro k hk hd
    dsimp only at hd ⊢
    rw [getD_clear_ring, ringStep_add hp ht]
    split
    · rfl
    · next hout =>
      by_cases hwrap : ringDist p.sampleCap c.procIdx c.tgtIdx + k < p.sampleCap
      · exact h.rest_clean _ hwrap (by omega)
      · refine absurd ?_ hout
        have htgt := ringDist_lt (Nat.zero_lt_of_lt hp) c.procIdx c.tgtIdx
        rw [mem_windowSlots hp]
        refine ⟨Nat.mod_lt _ (Nat.zero_lt_of_lt hp), ?_⟩
        rw [show c.procIdx + (ringDist p.sampleCap c.procIdx c.tgtIdx + k)
            = c.procIdx + (ringDist p.sampleCap c.procIdx c.tgtIdx + k - p.sampleCap) + p.sampleCap by omega,
          Nat.add_mod_right, ringDist_step hp (by omega)]
        omega

/-- What a legal set of parameters says of the ring, the counter and the reset registers (R7, R34). -/
theorem Params.le_of_wellFormed (h : p.wellFormed = true) :
    2 ≤ p.sampleCap ∧ 2 ≤ p.timerMod ∧ (CfgRegs.reset p).wellFormed = true := by
  simp only [Params.wellFormed, Bool.and_eq_true, decide_eq_true_eq] at h
  exact ⟨h.1.1.1.1, h.1.1.1.2, h.1.2⟩

theorem Capture.reset_wf (hcap : 2 ≤ p.sampleCap) (htimer : 2 ≤ p.timerMod) : (Capture.reset p).Wf p := by
  have hempty : ringDist p.sampleCap 0 0 = 0 := by rw [ringDist_eq (by omega) (by omega)]; rfl
  have hslot : ∀ i, (Capture.reset p).ring.getD i Sample.clean = Sample.clean := fun i => by
    simp only [Capture.reset]
    by_cases hi : i < p.sampleCap <;> simp [hi]
  refine ⟨by simp [Capture.reset], ?_, ?_, ?_, ?_, Nat.zero_le _, Nat.le_refl _, ?_, fun k _ _ => hslot _⟩
  iterate 4 · simp only [Capture.reset]; omega
  · intro k hk
    simp [Capture.reset, hempty] at hk
end

/-! ### The invariant of the accumulator (R37) -/

theorem Acc.clear_wf : Acc.clear.Wf where
  len_le := Nat.zero_le _
  len_le_nsamp := Nat.le_refl _
  rest_clear j _ := by simp [Acc.clear]

theorem Acc.Wf.count {a : Acc} (h : a.Wf) : Acc.Wf { a with nsamp := a.nsamp + 1 } :=
  { h with len_le_nsamp := Nat.le_succ_of_le h.len_le_nsamp }

theorem Acc.Wf.append {a : Acc} (h : a.Wf) (hroom : a.len ≠ Config.symCap) (b : Bool) (r : PosRec) :
    Acc.Wf { nsamp := a.nsamp + 1, len := a.len + 1, bits := a.bits.setIfInBounds a.len b,
             recs := a.recs.setIfInBounds a.len r } where
  len_le := Nat.lt_of_le_of_ne h.len_le hroom
  len_le_nsamp := Nat.succ_le_succ h.len_le_nsamp
  rest_clear j hj := by
    have hne : a.len ≠ j.val := Nat.ne_of_lt hj
    simpa [Vector.getElem_setIfInBounds, hne] using h.rest_clear j (Nat.le_of_lt hj)

/-- The accumulator after one sample, before a gap ends its word (41_wordbuilder.md R154). -/
theorem takeSymbol_acc_wf {s : State} (h : s.acc.Wf) (pm : Nat) (x : Sample) :
    (takeSymbol pm s x).countSample.acc.Wf := by
  rcases takeSymbol_cases pm s x with ⟨-, e⟩ | ⟨-, -, e⟩ | ⟨-, hroom, e⟩ <;> rw [e]
  · exact h.count
  · exact h.count
  · exact h.append hroom _ _

/-! ### The invariant of the matcher (R39 to R42) -/

section
variable {c : Corr} {k : Candidate}

theorem Corr.cleared_wf (c : Corr) : c.cleared.Wf where
  lc_occupied l hl := by simp [Corr.cleared] at hl
  candidates_fit j k hk := by simp [Corr.cleared] at hk

theorem Corr.Wf.invalidate (h : c.Wf) : c.invalidate.Wf := by
  unfold Corr.invalidate
  split
  · exact ⟨fun l hl => by simp at hl, h.candidates_fit⟩
  · exact h

/-- After the invalidation the last confirmed slot is not the one to be written (42_matcher.md R184). -/
theorem Corr.invalidate_lc_ne (c : Corr) : c.invalidate.lc ≠ some c.invalidate.widx := by
  unfold Corr.invalidate
  split
  · simp
  · assumption

theorem Corr.Wf.insert (h : c.Wf) (hlc : c.lc ≠ some c.widx) (hk : k.length ≤ Config.symCap) (t : U32) :
    (c.insert k t).Wf where
  lc_occupied l hl := by
    have hl : c.lc = some l := hl
    have hne : c.widx.val ≠ l.val := fun heq => hlc (by rw [hl, Fin.ext heq])
    simpa [Corr.insert, Vector.getElem_set, hne] using h.lc_occupied l hl
  candidates_fit j k' hk' := by
    simp only [Corr.insert, Vector.getElem_set] at hk'
    split at hk'
    · cases hk'
      exact hk
    · exact h.candidates_fit j k' hk'

theorem Corr.Wf.confirm (h : c.Wf) {f : Fin Config.nCorr} {a : Candidate} (hf : c.slots[f.val] = some a) :
    Corr.Wf { c with lc := some f } where
  lc_occupied l hl := by
    cases hl
    simp [hf]
  candidates_fit := h.candidates_fit

end

section
variable {s : State} {k : Candidate}

theorem inserted_wf (h : s.corr.Wf) (hk : k.length ≤ Config.symCap) (tm : U32) : (s.inserted k tm).Wf := by
  unfold State.inserted
  refine Corr.Wf.insert (Corr.Wf.invalidate ?_) (Corr.invalidate_lc_ne _) hk tm
  split
  · exact Corr.cleared_wf _
  · exact h

theorem submitCore_corr_wf (h : s.corr.Wf) (hk : k.length ≤ Config.symCap) (tm : U32) :
    (submitCore k tm s).1.corr.Wf := by
  have hins := inserted_wf h hk tm
  rcases submitCore_cases k tm s with ⟨-, e⟩ | ⟨-, -, e⟩ | ⟨-, f, a, hscan, ⟨-, e⟩ | ⟨-, e⟩⟩ <;> rw [e]
  · exact h
  · exact hins
  · exact hins
  · exact hins.confirm (scan_some hscan).1

/-- A finalized word has at most `SYM_CAP` symbols. -/
theorem candidate_fits (s : State) : s.candidate.length ≤ Config.symCap := by
  show (s.acc.bits.toList.take s.acc.len).length ≤ _
  simp

theorem processSample_wf (hacc : s.acc.Wf) (hcorr : s.corr.Wf) (pm : Nat) (tm : U32) (x : Sample) :
    (processSample pm tm s x).acc.Wf ∧ (processSample pm tm s x).corr.Wf := by
  have hcorr' : (takeSymbol pm s x).countSample.corr.Wf := by
    rw [State.countSample_corr, takeSymbol_frame]
    exact hcorr
  unfold processSample
  dsimp only
  split
  · exact ⟨Acc.clear_wf, submitCore_corr_wf hcorr' (candidate_fits _) tm⟩
  · exact ⟨takeSymbol_acc_wf hacc pm x, hcorr'⟩

theorem processWindow_wf (hacc : s.acc.Wf) (hcorr : s.corr.Wf) (pm : Nat) (tm : U32) (xs : List Sample) :
    (xs.foldl (processSample pm tm) s).acc.Wf ∧ (xs.foldl (processSample pm tm) s).corr.Wf := by
  induction xs generalizing s with
  | nil => exact ⟨hacc, hcorr⟩
  | cons x xs ih =>
    obtain ⟨hacc', hcorr'⟩ := processSample_wf hacc hcorr pm tm x
    exact ih hacc' hcorr'

end

/-! ### The invariant of the queue (R47) -/

section
variable {q : TxQueue}

theorem TxQueue.reset_wf : TxQueue.reset.Wf where
  count_le := Nat.zero_le _
  occupied_iff j := by simp [TxQueue.reset]
  strings_fit j str hstr := by simp [TxQueue.reset] at hstr

theorem TxQueue.Wf.enqueue (h : q.Wf) (hroom : q.count ≠ Config.qCap) {str : List Byte} (hpos : str.length ≠ 0)
    (hfit : str.length ≤ Config.symCap) :
    TxQueue.Wf { slots := q.slots.setIfInBounds q.count (some str), count := q.count + 1 } where
  count_le := Nat.lt_of_le_of_ne h.count_le hroom
  occupied_iff j := by
    dsimp only
    rw [Vector.getElem_setIfInBounds]
    split
    · next heq => simp [← heq]
    · next hne =>
      rw [h.occupied_iff j]
      omega
  strings_fit j str' hstr := by
    simp only [Vector.getElem_setIfInBounds] at hstr
    split at hstr
    · cases hstr
      exact ⟨Nat.one_le_iff_ne_zero.mpr hpos, hfit⟩
    · exact h.strings_fit j str' hstr

/-- The slots after the head is consumed: each holds what the next one held, and the last is empty (R227). -/
theorem getElem_shifted (v : Vector (Option (List Byte)) Config.qCap) (j : Fin Config.qCap) :
    (#v[v[1], v[2], v[3], v[4], none])[j.val] = if h : j.val + 1 < Config.qCap then v[j.val + 1] else none := by
  fin_cases j <;> rfl

theorem consumeHead_wf {s : State} (h : s.queue.Wf) (hsome : 0 < s.queue.count) : s.consumeHead.queue.Wf := by
  have hle := h.count_le
  rw [consumeHead_eq hsome]
  refine ⟨Nat.le_trans (Nat.sub_le _ _) hle, fun j => ?_, fun j str hstr => ?_⟩
  · dsimp only
    rw [getElem_shifted]
    split
    · next hj =>
      rw [h.occupied_iff ⟨j.val + 1, hj⟩]
      dsimp only
      omega
    · simp
      omega
  · dsimp only at hstr
    rw [getElem_shifted] at hstr
    split at hstr
    · next hj => exact h.strings_fit ⟨j.val + 1, hj⟩ str hstr
    · cases hstr

/-- The head of a queue that is not empty is a string of 1 to `SYM_CAP` symbols. -/
theorem TxQueue.Wf.head (h : q.Wf) (hsome : 0 < q.count) :
    1 ≤ ((q.slots[0]).getD []).length ∧ ((q.slots[0]).getD []).length ≤ Config.symCap := by
  obtain ⟨str, hstr⟩ := Option.isSome_iff_exists.mp ((h.occupied_iff 0).mpr hsome)
  have hfit := h.strings_fit 0 str hstr
  have hstr : q.slots[0] = some str := hstr
  simpa [hstr] using hfit

end

/-! ### The invariant of the scheduler and the radio bits (R44 to R46) -/

theorem length_dutiesOf {cfg : CfgRegs} {str : List Byte} {ds : List U32} (h : dutiesOf cfg str = some ds) :
    ds.length = str.length := by
  induction str generalizing ds with
  | nil => cases h; rfl
  | cons b bs ih =>
    simp only [dutiesOf] at h
    split at h
    · next d ds' _ hds' =>
      cases h
      rw [List.length_cons, List.length_cons, ih hds']
    · cases h

/-- A prepared frame is one duty value for each symbol and the terminating zero (43_scheduler.md R200). -/
theorem prepare_eq_some {cfg : CfgRegs} {str : List Byte} {ds : List U32} (h : prepare cfg str = some ds) :
    ∃ pulses, ds = pulses ++ [0#32] ∧ pulses.length = str.length := by
  obtain ⟨pulses, hp, rfl⟩ := Option.map_eq_some_iff.mp h
  exact ⟨pulses, rfl, length_dutiesOf hp⟩

theorem Sched.reset_wf (p : Params) : (Sched.reset p).Wf := by
  constructor <;> simp [Sched.reset, Frame.reset]

section
variable {s : State}

/-- A burst starts from a prepared string of the queue's lengths (R201, R205). -/
theorem startBurst_wf (h : s.tx.Wf) (hidle : s.tx.bstate = .idle) {pulses : List U32}
    (hpos : 1 ≤ pulses.length) (hfit : pulses.length ≤ Config.symCap) :
    (s.startBurst (pulses ++ [0#32])).tx.Wf := by
  have hopen : ¬s.tx.rxExcl = true := fun hx => by simpa [hidle] using (h.rxExcl_off hx).1
  rw [startBurst_eq]
  refine ⟨by simp [startFrame], by simp, by simp, by simp +contextual [hopen], ?_, fun _ => ?_, fun j hj => ?_⟩
  · simp only [startFrame, List.length_append, List.length_singleton]
    exact Nat.succ_le_succ hfit
  · simpa [startFrame] using hpos
  · simp only [startFrame, List.length_append, List.length_singleton] at hj
    simp only [startFrame, getElem_dutyBuffer]
    rw [List.getD_append_right _ _ _ _ (by omega)]
    cases j.val - pulses.length <;> rfl

theorem triggerFrame_wf (h : s.tx.Wf) (hactive : s.tx.bstate = .active) (hopen : s.tx.frm.frameComplete = false) :
    s.triggerFrame.tx.Wf :=
  { h with inFlight_active := fun _ => ⟨hactive, hopen⟩ }

theorem nextFrame_wf (h : s.tx.Wf) : s.nextFrame.tx.Wf :=
  { h with inFlight_active := fun hf => ⟨(h.inFlight_active hf).1, rfl⟩ }

theorem completeFrame_wf (h : s.tx.Wf) : s.completeFrame.tx.Wf :=
  { h with inFlight_active := fun hf => by simp at hf }

theorem endBurst_wf (h : s.tx.Wf) (hidle : s.tx.fstate = .idle) : s.endBurst.tx.Wf := by
  rw [endBurst_eq]
  exact ⟨by simp, by simp, by simp [hidle], by simp, h.len_le, by simp, h.rest_zero⟩

/-- The receive mode shuts the radio out only in a burst (45_config.md R253). -/
theorem applyRxMode_wf (h : s.tx.Wf) : s.applyRxMode.tx.Wf := by
  rw [applyRxMode_eq]
  refine { h with rxExcl_off := fun hx => ?_ }
  have hshut : s.cfg.rxMode ≠ RxMode.off ∧ s.cfg.rxMode ≠ RxMode.alwaysOn ∧ s.tx.txActive = true := by
    by_contra hno
    simp [hno] at hx
  obtain ⟨-, hmode, hactive⟩ := hshut
  exact ⟨h.txActive_iff_active.mp hactive, by simp [hmode, hactive]⟩

end

/-! ### The invariant of the registers (R31) -/

theorem CfgRegs.wellFormed_iff (c : CfgRegs) : c.wellFormed = true ↔
    c.minWordLen.toNat ≤ c.maxWordLen.toNat ∧ c.txShort.toNat ≤ c.txLong.toNat ∧
      c.invertLogic.toNat ≤ 1 ∧ c.ignoreSync.toNat ≤ 1 ∧ c.rxMode.toNat ≤ 2 := by
  simp [CfgRegs.wellFormed, and_assoc]

/-- A legal value keeps the register file legal (R31, 45_config.md R263). -/
theorem CfgRegs.wellFormed_set {c : CfgRegs} (h : c.wellFormed = true) {r : CfgReg} {v : U32}
    (hlegal : c.legal r v = true) : (c.set r v).wellFormed = true := by
  rw [CfgRegs.wellFormed_iff] at h ⊢
  cases r <;> simp_all [CfgRegs.set, CfgRegs.legal]

/-! ### Each operation on the state keeps the invariant -/

section
variable {s t : State}

theorem State.Inv.returns (h : s.Inv) (c : Code) : (s.returns c).Inv := { h with }

theorem State.Inv.stored (h : s.Inv) (x : Sample) (n : Nat) : (s.stored x n).Inv :=
  { h with cap := h.cap.write x }

theorem State.Inv.restarted (h : s.Inv) {c : Nat} (hc : c < s.params.timerMod) : (s.restarted c).Inv :=
  { h with cap := h.cap.restart hc }

theorem State.Inv.overflowed (h : s.Inv) (hcap : s.cap.ovf < ovfCap s.params s.cfg.maxBitPeriod) :
    s.overflowed.Inv :=
  { h with cap := h.cap.overflow hcap }

theorem State.Inv.snapshot (h : s.Inv) : s.snapshot.Inv := { h with cap := h.cap.snapshot }

theorem State.Inv.advanceIfWidth (h : s.Inv) : s.advanceIfWidth.Inv := by
  rw [advanceIfWidth_eq]
  refine { h with cap := ?_ }
  dsimp only
  split
  · next hadv => exact h.cap.advance hadv.1 hadv.2
  · exact h.cap

theorem State.Inv.raise (h : s.Inv) (f : FaultBit) : (s.raise f).Inv := by
  cases f <;> exact { h with }

theorem State.Inv.processWindow (h : s.Inv) (pm : Nat) (tm : U32) (xs : List Sample) :
    (xs.foldl (processSample pm tm) s).Inv := by
  obtain ⟨hacc, hcorr⟩ := processWindow_wf h.acc h.corr pm tm xs
  rw [processWindow_frame]
  exact { h with acc := hacc, corr := hcorr }

theorem State.Inv.clearWindow (h : s.Inv) : (s.clearWindow s.window).Inv := { h with cap := h.cap.consume }

theorem processWindow_window (pm : Nat) (tm : U32) (xs : List Sample) (s : State) :
    (xs.foldl (processSample pm tm) s).window = s.window := by
  rw [processWindow_frame]
  rfl

theorem State.Inv.submitCore (h : s.Inv) {k : Candidate} (hk : k.length ≤ Config.symCap) (tm : U32) :
    (submitCore k tm s).1.Inv := by
  have hcorr := submitCore_corr_wf h.corr hk tm
  rw [submitCore_frame]
  exact { h with corr := hcorr }

theorem State.Inv.consumeHead (h : s.Inv) (hsome : 0 < s.queue.count) : s.consumeHead.Inv := by
  have hqueue := consumeHead_wf h.queue hsome
  rw [consumeHead_eq hsome] at hqueue ⊢
  exact { h with queue := hqueue }

theorem State.Inv.startBurst (h : s.Inv) (hidle : s.tx.bstate = .idle) {pulses : List U32}
    (hpos : 1 ≤ pulses.length) (hfit : pulses.length ≤ Config.symCap) :
    (s.startBurst (pulses ++ [0#32])).Inv := by
  have htx := startBurst_wf h.tx hidle hpos hfit
  rw [startBurst_eq] at htx ⊢
  exact { h with tx := htx }

theorem State.Inv.triggerFrame (h : s.Inv) (hactive : s.tx.bstate = .active)
    (hopen : s.tx.frm.frameComplete = false) : s.triggerFrame.Inv :=
  { h with tx := triggerFrame_wf h.tx hactive hopen }

theorem State.Inv.nextFrame (h : s.Inv) : s.nextFrame.Inv := { h with tx := nextFrame_wf h.tx }

theorem State.Inv.completeFrame (h : s.Inv) : s.completeFrame.Inv := { h with tx := completeFrame_wf h.tx }

theorem State.Inv.endBurst (h : s.Inv) (hidle : s.tx.fstate = .idle) : s.endBurst.Inv := by
  have htx := endBurst_wf h.tx hidle
  rw [endBurst_eq] at htx ⊢
  exact { h with tx := htx }

theorem State.Inv.setCfg (h : s.Inv) {r : CfgReg} {v : U32} (hlegal : s.cfg.legal r v = true) :
    (s.setCfg r v).Inv :=
  { h with cfg := CfgRegs.wellFormed_set h.cfg hlegal }

theorem State.Inv.applyRxMode (h : s.Inv) : s.applyRxMode.Inv := by
  have htx := applyRxMode_wf h.tx
  rw [applyRxMode_eq] at htx ⊢
  exact { h with tx := htx }

theorem State.resetOf_inv {p : Params} (h : p.wellFormed = true) : (State.resetOf p).Inv := by
  obtain ⟨hcap, htimer, hcfg⟩ := Params.le_of_wellFormed h
  exact ⟨h, hcfg, Capture.reset_wf hcap htimer, Acc.clear_wf, Corr.cleared_wf Corr.reset, Sched.reset_wf p,
    TxQueue.reset_wf⟩

/-! ### Each step keeps the invariant -/

/-- Every way an operation can end keeps the invariant: each state operation it is made of does. -/
theorem Effect.keeps_inv {i : Instr} (h : Effect s i t) (hs : s.Inv) : t.Inv := by
  cases h with
  | code c => exact hs.returns c
  | read | noBoundary => exact { hs with }
  | rise x n hc => exact ((hs.stored x n).restarted hc).advanceIfWidth.returns _
  | fall x n => exact (hs.stored x n).returns _
  | overflow hcap => exact (hs.overflowed hcap).returns _
  | boundary x n => exact (hs.stored x n).advanceIfWidth.snapshot.returns _
  | discard => exact (hs.raise .div0).clearWindow.returns _
  | words pm xs =>
    rw [← processWindow_window pm s.port.t xs s]
    exact (hs.processWindow pm s.port.t xs).clearWindow.returns _
  | submit c hfit => exact (hs.submitCore hfit s.port.t).returns c
  | badHead hsome => exact (hs.consumeHead hsome).returns _
  | burst ds hidle hsome hds =>
    obtain ⟨pulses, rfl, hlen⟩ := prepare_eq_some hds
    obtain ⟨hpos, hfit⟩ := hs.queue.head hsome
    rw [← hlen] at hpos hfit
    exact ((hs.consumeHead hsome).startBurst (by simpa using hidle) hpos hfit).returns _
  | firstFrame hactive hopen => exact (hs.triggerFrame hactive hopen).returns _
  | repeatFrame hactive => exact (hs.nextFrame.triggerFrame hactive rfl).returns _
  | frameDone => exact hs.completeFrame.returns _
  | burstEnd => exact (hs.completeFrame.endBurst rfl).returns _
  | enqueue hpos hfit hroom => exact { hs with queue := hs.queue.enqueue hroom hpos hfit }
  | configure r hlegal => exact (hs.setCfg hlegal).returns _
  | receiveMode hlegal => exact (hs.setCfg hlegal).applyRxMode.returns _
  | reset => exact { State.resetOf_inv hs.params with }

theorem exec_keeps_inv {i : Instr} (hs : s.Inv) (h : exec i s = .next t) : t.Inv := (exec_effect h).keeps_inv hs

theorem step_keeps_inv (hs : s.Inv) (h : step s = .next t) : t.Inv := by
  rcases step_cases h with rfl | ⟨port, inbox, rfl | ⟨i, hi⟩⟩
  · exact hs
  · exact { hs with }
  · have hs' : State.Inv { s with port := port, inbox := inbox } := { hs with }
    exact exec_keeps_inv hs' hi

/-- Settles O16: a step idles, answers a code, or executes an operation, and each keeps the invariant. -/
theorem invariantKeptByEveryStep : Obligations.InvariantKeptByEveryStep := fun _ _ hs h => step_keeps_inv hs h

/-- Settles O17: every part is well formed at reset, and the parameters of `State.reset` are legal. -/
theorem invariantHoldsAtReset : Obligations.InvariantHoldsAtReset :=
  ⟨fun _ h => State.resetOf_inv h, State.resetOf_inv (by decide)⟩

/-! ### Reachable states (R73) -/

theorem Effect.params_eq {i : Instr} (h : Effect s i t) : t.params = s.params := by
  cases h with
  | words pm xs =>
    rw [processWindow_frame]
    rfl
  | submit =>
    rw [submitCore_frame]
    rfl
  | code | read | rise | fall | overflow | noBoundary | boundary | discard | badHead | burst | firstFrame | repeatFrame
  | frameDone | burstEnd | enqueue | configure | receiveMode | reset =>
    simp [State.stored, State.restarted, State.overflowed, State.snapshot, State.nextFrame, State.resetOf]

theorem step_params (h : step s = .next t) : t.params = s.params := by
  rcases step_cases h with rfl | ⟨port, inbox, rfl | ⟨i, hi⟩⟩
  · rfl
  · rfl
  · exact (exec_effect hi).params_eq

/-- Every state reachable with legal parameters has those parameters and meets the invariant. -/
theorem reachable_inv {p : Params} (hp : p.wellFormed = true) (h : Reachable p s) : s.params = p ∧ s.Inv := by
  induction h with
  | reset => exact ⟨rfl, State.resetOf_inv hp⟩
  | issued u x _ ih =>
    obtain ⟨hparams, hinv⟩ := ih
    exact ⟨hparams, { hinv with }⟩
  | stepped u v _ hstep ih =>
    obtain ⟨hparams, hinv⟩ := ih
    exact ⟨(step_params hstep).trans hparams, step_keeps_inv hinv hstep⟩

/-- Settles O19: the ring discipline is the sample ring's part of the invariant, with or without a fault bit set. -/
theorem reachableStatesKeepTheRingDiscipline : Obligations.ReachableStatesKeepTheRingDiscipline := by
  intro p s hp hreach _
  obtain ⟨rfl, hinv⟩ := reachable_inv hp hreach
  exact ⟨hinv.cap.window_stored, Nat.le_sub_one_of_lt hinv.cap.stored_lt, hinv.cap.stored_complete, hinv.cap.rest_clean⟩
end

end Sys2Proof.Machine


/-! PROOFS. The statement of 20_memory.md: capture and the consumer share the sample ring, and no interrupt-context
operation touches the window that a BUILD reads (R75). An interrupt-context operation moves neither end of the window
and writes no slot but the one at the store cursor, and the ring discipline (R28) keeps the store cursor out of the
window. -/

namespace Sys2Proof.Machine
section
variable {s t : State}

/-- The store cursor is at the end of the stored region, beyond the window within it (R28). -/
theorem Capture.Wf.storIdx_not_mem_window (h : s.cap.Wf s.params) : s.cap.storIdx ∉ s.window := by
  intro hmem
  obtain ⟨-, hinside⟩ := (mem_windowSlots h.proc_in_ring).mp hmem
  exact absurd h.window_stored (Nat.not_le_of_lt hinside)

theorem slot_stored_of_ne (x : Sample) (n : Nat) {j : Nat} (hj : j ≠ s.cap.storIdx) :
    (s.stored x n).slot j = s.slot j := by
  simp only [State.slot, State.stored, getD_set_ring, if_neg fun hw : s.cap.storIdx = j ∧ _ => hj hw.1.symm]

/-- Every SET belongs to the loop context (30_encoding.md R100). -/
theorem context_setInstr (r : CfgReg) : (setInstr r).context = .loop := by cases r <;> rfl

/-- An interrupt-context operation moves neither end of the window and writes at most the slot at the store cursor. -/
theorem Effect.interrupt_ring {i : Instr} (h : Effect s i t) (hi : i.context = .interrupt) :
    t.cap.procIdx = s.cap.procIdx ∧ t.cap.tgtIdx = s.cap.tgtIdx ∧ ∀ j ≠ s.cap.storIdx, t.slot j = s.slot j := by
  cases h with
  | code | read | overflow | frameDone => exact ⟨rfl, rfl, fun _ _ => rfl⟩
  | burstEnd => exact ⟨by simp, by simp, fun j _ => slot_eq_of_ring (by simp) j⟩
  | fall x n => exact ⟨rfl, rfl, fun _ hj => slot_stored_of_ne x n hj⟩
  | rise x n =>
    rw [advanceIfWidth_eq]
    exact ⟨rfl, rfl, fun _ hj => slot_stored_of_ne x n hj⟩
  | configure r => simp [context_setInstr] at hi
  | noBoundary | boundary | discard | words | submit | badHead | burst | firstFrame | repeatFrame | enqueue
  | receiveMode | reset => cases hi

/-- Settles O28: the window keeps its ends, and the one slot that may be written is not in it. -/
theorem captureNeverDisturbsTheWindow : Obligations.CaptureNeverDisturbsTheWindow := by
  intro i s t hi hinv h
  have heffect := exec_effect h
  obtain ⟨hproc, htgt, hslots⟩ := heffect.interrupt_ring hi
  refine ⟨?_, fun j hj => hslots j ?_⟩
  · simp only [State.window, heffect.params_eq, hproc, htgt]
  · rintro rfl
    exact hinv.cap.storIdx_not_mem_window hj

end
end Sys2Proof.Machine


/-! PROOFS. The statements of 30_encoding.md. First the decoder and the encoder on the two fields of a word: each table
of the decoder inverted, once where it answers an operation and once where it answers none, so that decoding, encoding
and the reserved words follow from one lemma (`decode_eq_ok_iff`). Then what the operations of a word, reserved or not,
do in a step, and each operation on and beyond the domains of its ports. -/

namespace Sys2Proof

/-! ### The fields of a word (R96) -/

theorem opcOf_append_selOf (w : OpWord) : opcOf w ++ selOf w = w := by
  unfold opcOf selOf
  rw [BitVec.extractLsb'_append_extractLsb'_eq_extractLsb' (by rfl)]
  exact BitVec.extractLsb'_eq_self

theorem toNat_opcOf (w : OpWord) : (opcOf w).toNat = w.toNat / 256 := by
  have hw := w.isLt
  rw [opcOf, BitVec.extractLsb'_toNat, Nat.shiftRight_eq_div_pow]
  omega

theorem toNat_selOf (w : OpWord) : (selOf w).toNat = w.toNat % 256 := by
  simp [selOf]

/-! ### The rows of a table of the decoder -/

/-- One row of a table: the operation it answers, if its condition is met, or what the rows after it answer. -/
theorem encode_of_row {c : Prop} [Decidable c] {a i : Instr} {rest : Option Instr} {w : OpWord}
    (hrow : c → encode a = w) (hrest : rest = some i → encode i = w)
    (h : (if c then some a else rest) = some i) : encode i = w := by
  split at h
  · next hc =>
    cases h
    exact hrow hc
  · exact hrest h

theorem row_eq_none_iff {c : Prop} [Decidable c] {a : Instr} {rest : Option Instr} :
    (if c then some a else rest) = none ↔ ¬c ∧ rest = none := by
  split <;> simp [*]

/-! ### The tables where they answer an operation (R108, R109, R110) -/

theorem encode_of_decodeEvent {opc : BitVec 8} {i : Instr} :
    decodeEvent opc = some i → encode i = opc ++ 0x00#8 := by
  unfold decodeEvent
  repeat refine encode_of_row (by rintro rfl; rfl) ?_
  exact nofun

theorem encode_of_decodeSet {sel : BitVec 8} {i : Instr} :
    decodeSet sel = some i → encode i = 0x30#8 ++ sel := by
  unfold decodeSet
  repeat refine encode_of_row (by rintro rfl; rfl) ?_
  exact nofun

theorem encode_of_decodeGet {sel : BitVec 8} {i : Instr} :
    decodeGet sel = some i → encode i = 0x31#8 ++ sel := by
  unfold decodeGet
  repeat refine encode_of_row (by rintro rfl; rfl) ?_
  exact nofun

/-! ### The tables where they answer none (R111) -/

theorem decodeEvent_eq_none_iff {opc : BitVec 8} : decodeEvent opc = none ↔
    opc.toNat ∉ [0x01, 0x02, 0x03, 0x04, 0x10, 0x11, 0x12, 0x13, 0x20, 0xF0] := by
  simp [decodeEvent, row_eq_none_iff, ← BitVec.toNat_inj]

theorem decodeSet_eq_none_iff {sel : BitVec 8} : decodeSet sel = none ↔ 0x0C < sel.toNat := by
  simp only [decodeSet, row_eq_none_iff, and_true]
  bv_omega

theorem decodeGet_eq_none_iff {sel : BitVec 8} : decodeGet sel = none ↔
    0x0C < sel.toNat ∧ ¬(0x20 ≤ sel.toNat ∧ sel.toNat ≤ 0x27) := by
  simp only [decodeGet, row_eq_none_iff, and_true]
  bv_omega

/-! ### The decoder (R117) -/

section
variable {w : OpWord} {i : Instr}

theorem decode_set_eq_ok_iff (hopc : opcOf w = 0x30#8) : decode w = .ok i ↔ decodeSet (selOf w) = some i := by
  simp only [decode, hopc, if_true]
  split
  · next a hsel => simp [hsel]
  · next hsel => split <;> simp [hsel]

theorem decode_get_eq_ok_iff (hopc : opcOf w = 0x31#8) : decode w = .ok i ↔ decodeGet (selOf w) = some i := by
  simp only [decode, hopc, BitVec.reduceEq, if_true, if_false]
  split <;> simp [*]

theorem decode_event_eq_ok_iff (hset : opcOf w ≠ 0x30#8) (hget : opcOf w ≠ 0x31#8) :
    decode w = .ok i ↔ selOf w = 0x00#8 ∧ decodeEvent (opcOf w) = some i := by
  simp only [decode, hset, hget, if_false]
  split
  · next a hevent => split <;> simp [*]
  · next hevent => simp [hevent]

/-- The operation code chooses the table, and the selector is looked up in it or must be 0. -/
theorem decode_eq_ok_iff : decode w = .ok i ↔
    (selOf w = 0x00#8 ∧ decodeEvent (opcOf w) = some i) ∨
    (opcOf w = 0x30#8 ∧ decodeSet (selOf w) = some i) ∨
    (opcOf w = 0x31#8 ∧ decodeGet (selOf w) = some i) := by
  by_cases hset : opcOf w = 0x30#8
  · simp [decode_set_eq_ok_iff hset, hset, decodeEvent]
  by_cases hget : opcOf w = 0x31#8
  · simp [decode_get_eq_ok_iff hget, hget, decodeEvent]
  · simp [decode_event_eq_ok_iff hset hget, hset, hget]

end

/-! ### Decode and encode (R108, R109, R110) -/

theorem wordFields (i : Instr) : Laws.WordFields.Statement i := by
  cases i with
  | rise | fall | ovf | txdone | bchk | build | submit | sched | enq | rst => exact .inl ⟨rfl, rfl⟩
  | setTimeoutUs | setMatchThresh | setMinWordLen | setMaxWordLen | setMaxBitPeriod | setTxShort | setTxLong
  | setFrameDelayMs | setBurstDelayMs | setRepeatCount | setInvertLogic | setIgnoreSync | setRxMode =>
    exact .inr (.inl ⟨rfl, rfl⟩)
  | getTimeoutUs | getMatchThresh | getMinWordLen | getMaxWordLen | getMaxBitPeriod | getTxShort | getTxLong
  | getFrameDelayMs | getBurstDelayMs | getRepeatCount | getInvertLogic | getIgnoreSync | getRxMode
  | getStatus | getQcount | getStorIdx | getProcIdx | getTgtIdx | getCorrWidx | getFramesSent | getOvfCount =>
    exact .inr (.inr ⟨rfl, rfl⟩)

theorem decode_encode (i : Instr) : decode (encode i) = .ok i := decode_eq_ok_iff.mpr (wordFields i)

/-- No other word than its own decodes to an operation. -/
theorem eq_encode_of_decode {w : OpWord} {i : Instr} (h : decode w = .ok i) : w = encode i := by
  rw [← opcOf_append_selOf w]
  rcases decode_eq_ok_iff.mp h with ⟨hsel, hevent⟩ | ⟨hopc, hset⟩ | ⟨hopc, hget⟩
  · rw [hsel, encode_of_decodeEvent hevent]
  · rw [hopc, encode_of_decodeSet hset]
  · rw [hopc, encode_of_decodeGet hget]

/-- Settles O2: each table is inverted on the word's two fields, and each operation's word has the fields of its
format. -/
theorem decodeAndEncodeAgree : Obligations.DecodeAndEncodeAgree := by
  intro w i
  constructor
  · exact eq_encode_of_decode
  · rintro rfl
    exact decode_encode i

/-! ### The reserved words (R111) -/

theorem exists_decode_error_iff {w : OpWord} : (∃ r, decode w = .error r) ↔ ¬∃ i, decode w = .ok i := by
  cases decode w <;> simp

theorem exists_decode_ok_iff {w : OpWord} : (∃ i, decode w = .ok i) ↔
    (selOf w = 0x00#8 ∧ decodeEvent (opcOf w) ≠ none) ∨
    (opcOf w = 0x30#8 ∧ decodeSet (selOf w) ≠ none) ∨
    (opcOf w = 0x31#8 ∧ decodeGet (selOf w) ≠ none) := by
  simp only [decode_eq_ok_iff, exists_or, exists_and_left, Option.ne_none_iff_exists']

/-- Settles O3: a word is reserved where its table answers none, each table's gaps read as numbers. -/
theorem reservedWordsAreExactlyThese : Obligations.ReservedWordsAreExactlyThese := by
  intro w
  rw [exists_decode_error_iff, exists_decode_ok_iff]
  simp only [Ne, decodeEvent_eq_none_iff, decodeSet_eq_none_iff, decodeGet_eq_none_iff, ← BitVec.toNat_inj,
    toNat_opcOf, toNat_selOf, List.mem_cons, List.not_mem_nil, or_false, BitVec.toNat_ofNat]
  omega

/-- A SET of a read-only register (R108). -/
theorem decode_setReadOnly {w : OpWord} (hopc : opcOf w = 0x30#8) (hlo : 0x20#8 ≤ selOf w) (hhi : selOf w ≤ 0x27#8) :
    decode w = .error (.setReadOnly (selOf w)) := by
  have hnone : decodeSet (selOf w) = none := by
    rw [decodeSet_eq_none_iff]
    bv_omega
  simp [decode, hopc, hnone, hlo, hhi]

/-- Settles O1: the listed words are those of the encoder, and those of R108's read-only rows have selectors 0x20 to
0x27. -/
theorem wordsDecodeToTheirOperations : Obligations.WordsDecodeToTheirOperations := by
  refine ⟨?events, ?sets, ?gets, ?readOnly⟩
  case events | sets | gets => and_intros <;> exact (decodeAndEncodeAgree _ _).mpr rfl
  case readOnly =>
    have hfields : ∀ w ∈ [0x3020#16, 0x3021#16, 0x3022#16, 0x3023#16, 0x3024#16, 0x3025#16, 0x3026#16, 0x3027#16],
        opcOf w = 0x30#8 ∧ 0x20#8 ≤ selOf w ∧ selOf w ≤ 0x27#8 := by
      simp [opcOf, selOf]
    intro w hw
    obtain ⟨hopc, hlo, hhi⟩ := hfields w hw
    exact ⟨_, decode_setReadOnly hopc hlo hhi⟩

end Sys2Proof

namespace Sys2Proof.Machine
section
variable {s t : State}

/-! ### A reserved word in a step (R112) -/

theorem step_of_fetch_reserved {s1 : State} {w : OpWord} {r : Reserved} (hf : s.fetch = some (w, s1))
    (hd : decode w = .error r) : step s = .next (s1.returns Code.illegalOp) := by
  simp only [step, hf, hd, execIllegal]

/-- Settles O5: the fetch moves the queue and the ports, and the illegal operation only returns its code. -/
theorem reservedWordIsTheIllegalOperation : Obligations.ReservedWordIsTheIllegalOperation :=
  fun _ _ _ _ hin hd => step_of_fetch_reserved (fetch_of_inbox hin) hd

/-! ### A control-loop tick (R116, R262) -/

theorem step_of_issue {i : Instr} {port : Ports} {rest : List Issue} (h : s.inbox = issue i port :: rest) :
    step s = exec i { s with port := port, inbox := rest } :=
  stepRunsTheDecodedOperation s (issue i port) rest i h (decode_encode i)

/-- No operation issues an operation or takes one from the queue (R73). -/
theorem Effect.inbox_eq {i : Instr} (h : Effect s i t) : t.inbox = s.inbox := by
  cases h with
  | words pm xs =>
    rw [processWindow_frame]
    rfl
  | submit =>
    rw [submitCore_frame]
    rfl
  | code | read | rise | fall | overflow | noBoundary | boundary | discard | badHead | burst | firstFrame | repeatFrame
  | frameDone | burstEnd | enqueue | configure | receiveMode | reset =>
    simp [State.stored, State.restarted, State.overflowed, State.snapshot, State.nextFrame]

/-- A step takes the operation it runs from the queue, and no more. -/
theorem inbox_of_step_issue {i : Instr} {port : Ports} {rest : List Issue} (hin : s.inbox = issue i port :: rest)
    (h : step s = .next t) : t.inbox = rest := by
  rw [step_of_issue hin] at h
  exact (exec_effect h).inbox_eq

/-- Settles O8: each step of the tick runs the part at the front of the queue and leaves the parts behind it. -/
theorem tickRunsItsThreePartsInOrder : Obligations.TickRunsItsThreePartsInOrder := by
  intro s c t rest hin
  refine ⟨step_of_issue hin, fun s1 h1 => ?_⟩
  have hin1 := inbox_of_step_issue hin h1
  refine ⟨step_of_issue hin1, fun s2 h2 => ?_⟩
  have hin2 := inbox_of_step_issue hin1 h2
  exact step_of_issue hin2

/-! ### The domains of the ports (R101, R103) -/

theorem wellFormed_capture_iff {i : Instr} (hi : i = .rise ∨ i = .fall ∨ i = .bchk) {p : Params} {port : Ports} :
    i.wellFormed p port = true ↔ port.c < p.timerMod := by
  rcases hi with rfl | rfl | rfl <;> simp [Instr.wellFormed, Instr.portsRead, Ports.inDomain]

theorem wellFormed_submit_iff {p : Params} {port : Ports} :
    Instr.submit.wellFormed p port = true ↔ port.k.length ≤ Config.symCap := by
  simp [Instr.wellFormed, Instr.portsRead, Ports.inDomain]

theorem wellFormed_enq_iff {p : Params} {port : Ports} :
    Instr.enq.wellFormed p port = true ↔ port.s.length ≤ Config.stringCap := by
  simp [Instr.wellFormed, Instr.portsRead, Ports.inDomain]

/-! ### Beyond its port's domain an operation is refused (R103) -/

theorem exec_capture_refused {i : Instr} (hi : i = .rise ∨ i = .fall ∨ i = .bchk)
    (h : s.params.timerMod ≤ s.port.c) : exec i s = .refused .captureOutOfDomain := by
  rcases hi with rfl | rfl | rfl <;> exact if_neg (Nat.not_lt_of_le h)

theorem execSubmit_refused (h : Config.symCap < s.port.k.length) :
    execSubmit s = .refused .candidateOutOfDomain :=
  if_neg (Nat.not_le_of_lt h)

theorem execEnq_refused (h : Config.stringCap < s.port.s.length) : execEnq s = .refused .stringOutOfDomain :=
  if_neg (Nat.not_le_of_lt h)

/-- A string that `S` carries and the queue has no slot long enough for is rejected (R229). -/
theorem execEnq_rejects (hlong : Config.symCap < s.port.s.length) (hdom : s.port.s.length ≤ Config.stringCap) :
    execEnq s = .next (s.returns Code.configRejected) := by
  simp only [execEnq, if_pos hdom, if_pos (Or.inr hlong)]

/-! ### On its ports' domains an operation completes (R103) -/

theorem execRise_completes (h : s.port.c < s.params.timerMod) : ∃ t, execRise s = .next t := ⟨_, if_pos h⟩

theorem execFall_completes (h : s.port.c < s.params.timerMod) : ∃ t, execFall s = .next t := ⟨_, if_pos h⟩

theorem execBchk_completes (h : s.port.c < s.params.timerMod) : ∃ t, execBchk s = .next t := by
  simp only [execBchk, if_pos h]
  split <;> exact ⟨_, rfl⟩

theorem execSubmit_completes (h : s.port.k.length ≤ Config.symCap) : ∃ t, execSubmit s = .next t := ⟨_, if_pos h⟩

theorem execEnq_completes (h : s.port.s.length ≤ Config.stringCap) : ∃ t, execEnq s = .next t := by
  simp only [execEnq, if_pos h]
  split_ifs <;> exact ⟨_, rfl⟩

theorem execBuild_completes (s : State) : ∃ t, execBuild s = .next t := by
  unfold execBuild
  split <;> exact ⟨_, rfl⟩

theorem execSched_completes (s : State) : ∃ t, execSched s = .next t := by
  unfold execSched
  split <;> exact ⟨_, rfl⟩

theorem execTxdone_completes (s : State) : ∃ t, execTxdone s = .next t := by
  simp only [execTxdone]
  split_ifs <;> exact ⟨_, rfl⟩

theorem setPlain_completes (r : CfgReg) (s : State) : ∃ t, setPlain r s = .next t := by
  unfold setPlain
  split <;> exact ⟨_, rfl⟩

theorem execSetRxMode_completes (s : State) : ∃ t, execSetRxMode s = .next t := by
  unfold execSetRxMode
  split <;> exact ⟨_, rfl⟩

/-- Only the operations that read `C`, `K` or `S` look at their domain; every other one completes with any payload. -/
theorem exec_completes {i : Instr} (h : i.wellFormed s.params s.port = true) : ∃ t, exec i s = .next t := by
  cases i with
  | rise => exact execRise_completes ((wellFormed_capture_iff (.inl rfl)).mp h)
  | fall => exact execFall_completes ((wellFormed_capture_iff (.inr (.inl rfl))).mp h)
  | bchk => exact execBchk_completes ((wellFormed_capture_iff (.inr (.inr rfl))).mp h)
  | submit => exact execSubmit_completes (wellFormed_submit_iff.mp h)
  | enq => exact execEnq_completes (wellFormed_enq_iff.mp h)
  | build => exact execBuild_completes s
  | sched => exact execSched_completes s
  | txdone => exact execTxdone_completes s
  | setRxMode => exact execSetRxMode_completes s
  | setTimeoutUs | setMatchThresh | setMinWordLen | setMaxWordLen | setMaxBitPeriod | setTxShort | setTxLong
  | setFrameDelayMs | setBurstDelayMs | setRepeatCount | setInvertLogic | setIgnoreSync =>
    exact setPlain_completes _ s
  | ovf | rst
  | getTimeoutUs | getMatchThresh | getMinWordLen | getMaxWordLen | getMaxBitPeriod | getTxShort | getTxLong
  | getFrameDelayMs | getBurstDelayMs | getRepeatCount | getInvertLogic | getIgnoreSync | getRxMode
  | getStatus | getQcount | getStorIdx | getProcIdx | getTgtIdx | getCorrWidx | getFramesSent | getOvfCount =>
    exact ⟨_, rfl⟩

/-- Settles O7: an operation on its domain completes; beyond it the range check of the operation's port answers. -/
theorem operationsCompleteOnTheirPortDomains : Obligations.OperationsCompleteOnTheirPortDomains :=
  ⟨fun _ _ => exec_completes, fun _ _ => exec_capture_refused, fun _ => execSubmit_refused, fun _ => execEnq_refused,
    fun _ => execEnq_rejects⟩
end

end Sys2Proof.Machine

/-! PROOFS. The statements of 40_capture.md. First what a capture writes and where the store cursor goes (R130, R134),
as one record update shared by RISE and a firing BCHK; then the statements of one operation, and from them the repeated
boundary check (R141) and the boundary after a silence (R140). -/

namespace Sys2Proof.Machine
section
variable {s t : State}

/-! ### Finalizing the current sample (R131, R134, R139) -/

/-- The store cursor looks for a recorded width, and a stored period does not touch that mark. -/
theorem advanceIfWidth_storePeriod (s : State) (p : Nat) : (s.storePeriod p).advanceIfWidth = { s with
    cap := { s.cap with
      ring := s.cap.ring.set s.cap.storIdx { s.slot s.cap.storIdx with period := p }
      storIdx := if (s.slot s.cap.storIdx).valid = true ∧
          nextIdx s.params.sampleCap s.cap.storIdx ≠ s.cap.procIdx
        then nextIdx s.params.sampleCap s.cap.storIdx else s.cap.storIdx }
    faults := if (s.slot s.cap.storIdx).valid = true ∧
        nextIdx s.params.sampleCap s.cap.storIdx = s.cap.procIdx
      then { s.faults with ovr := true } else s.faults } := by
  rw [advanceIfWidth_eq, slot_storePeriod_valid]
  rfl

/-- The restart of the reference (R131) and the advance (R134) touch different fields. -/
theorem advanceIfWidth_restarted (s : State) (c : Nat) :
    (s.restarted c).advanceIfWidth = s.advanceIfWidth.restarted c := by
  rw [advanceIfWidth_eq, advanceIfWidth_eq]
  rfl

theorem advanceIfWidth_of_no_width (h : (s.slot s.cap.storIdx).valid = false) : s.advanceIfWidth = s := by
  simp [State.advanceIfWidth, h]

@[simp] theorem slot_advanceIfWidth (s : State) (j : Nat) : s.advanceIfWidth.slot j = s.slot j :=
  slot_eq_of_ring (by rw [advanceIfWidth_eq]) j

theorem execRise_eq (hc : s.port.c < s.params.timerMod) : execRise s = .next
    ((((s.afterExt s.port.c s.cap.lastRise).storePeriod (s.ext s.port.c s.cap.lastRise)).advanceIfWidth.restarted
      s.port.c).returns Code.ok) := by
  rw [← advanceIfWidth_restarted]
  exact if_pos hc

/-- OVF counts below the cap and waits at it (R137). -/
theorem execOvf_eq (s : State) : execOvf s = .next ({ s with
    cap := { s.cap with
      ovf := if s.cap.ovf < ovfCap s.params s.cfg.maxBitPeriod then s.cap.ovf + 1
        else s.cap.ovf } }.returns Code.ok) := by
  simp only [execOvf]
  split <;> rfl

/-- When BCHK finalizes the current sample: the line has been quiet for long, and something is stored (R139). -/
def State.boundaryFires (s : State) : Prop :=
  s.cfg.maxBitPeriod.toNat < s.ext s.port.c s.cap.lastRise ∧ s.cap.storIdx ≠ s.cap.procIdx

/-- The state a firing BCHK answers, without its result code (R139). -/
def State.atBoundary (s : State) : State :=
  ((s.afterExt s.port.c s.cap.lastRise).storePeriod (s.ext s.port.c s.cap.lastRise)).advanceIfWidth.snapshot

theorem execBchk_fires (hc : s.port.c < s.params.timerMod) (hf : s.boundaryFires) :
    execBchk s = .next (s.atBoundary.returns Code.ok) :=
  (if_pos hc).trans (if_pos hf)

theorem execBchk_waits (hc : s.port.c < s.params.timerMod) (hf : ¬s.boundaryFires) :
    execBchk s = .next ((s.afterExt s.port.c s.cap.lastRise).returns Code.ok) :=
  (if_pos hc).trans (if_neg hf)

/-- A BCHK that completes has fired, or has changed at most the draw counter (R139). -/
theorem execBchk_cases (h : execBchk s = .next t) : s.boundaryFires ∧ t = s.atBoundary.returns Code.ok ∨
    ¬s.boundaryFires ∧ t = (s.afterExt s.port.c s.cap.lastRise).returns Code.ok := by
  have hc : s.port.c < s.params.timerMod := (execBchk_write h).1
  by_cases hf : s.boundaryFires
  · rw [execBchk_fires hc hf] at h
    cases h
    exact .inl ⟨hf, rfl⟩
  · rw [execBchk_waits hc hf] at h
    cases h
    exact .inr ⟨hf, rfl⟩

/-! ### What each operation answers (R131, R135, R137, R139) -/

/-- Settles O22: the range check refuses; past it, the stored period and the advance are one record update. -/
theorem riseStoresPeriodAndAdvances : Obligations.RiseStoresPeriodAndAdvances := by
  intro s
  refine ⟨exec_capture_refused (.inl rfl), fun hc => ?_⟩
  refine (execRise_eq hc).trans ?_
  rw [advanceIfWidth_storePeriod, afterExt_eq]
  rfl

/-- Settles O23: past the range check, FALL is one write of the current slot. -/
theorem fallStoresWidth : Obligations.FallStoresWidth := by
  intro s c total old w hc
  refine (if_pos hc : execFall s = _).trans ?_
  rw [afterExt_eq]
  rfl

/-- Settles O24: the count below the cap and the wait at it are the one update of `execOvf_eq`. -/
theorem overflowCounterSaturates : Obligations.OverflowCounterSaturates := fun s => execOvf_eq s

/-- Settles O25: a firing BCHK finalizes the sample as RISE does, and a waiting one leaves only the draw behind. -/
theorem boundaryCheckSnapshotsTheWindow : Obligations.BoundaryCheckSnapshotsTheWindow := by
  intro s c total old e draws n stor hc
  refine ⟨fun hf => (execBchk_fires hc hf).trans ?_, fun hf => (execBchk_waits hc hf).trans ?_⟩
  · rw [State.atBoundary, advanceIfWidth_storePeriod, afterExt_eq]
    rfl
  · rw [afterExt_eq]
    rfl

/-- Settles O29: the exact next states of RISE, FALL and OVF take the transmit side over as it stands. -/
theorem captureIgnoresTheTransmitSide : Obligations.CaptureIgnoresTheTransmitSide := by
  intro i s t x y hi h
  rcases hi with rfl | rfl | rfl
  · have hc : s.port.c < s.params.timerMod := (execRise_write h).1
    cases h.symm.trans ((riseStoresPeriodAndAdvances s).2 hc)
    exact (riseStoresPeriodAndAdvances { s with tx := x, queue := y }).2 hc
  · have hc : s.port.c < s.params.timerMod := (execFall_write h).1
    cases h.symm.trans (fallStoresWidth s hc)
    exact fallStoresWidth { s with tx := x, queue := y } hc
  · cases h.symm.trans (overflowCounterSaturates s)
    exact overflowCounterSaturates { s with tx := x, queue := y }

/-! ### A repeated boundary check (R141) -/

/-- Past an advance without an overrun the store cursor is at a slot with no width: the slot it stayed at has none, and
the slot it moved to is beyond the stored region and clean (R133). -/
theorem slot_storIdx_after_advance (h : s.cap.Wf s.params) (hovr : s.advanceIfWidth.faults.ovr = false) :
    (s.slot s.advanceIfWidth.cap.storIdx).valid = false := by
  rw [advanceIfWidth_eq] at hovr ⊢
  dsimp only at hovr ⊢
  by_cases hvalid : (s.slot s.cap.storIdx).valid = true
  · by_cases hfull : nextIdx s.params.sampleCap s.cap.storIdx = s.cap.procIdx
    · simp [hvalid, hfull] at hovr
    · rw [if_pos ⟨hvalid, hfull⟩]
      have hadv := h.advance hvalid hfull
      have hdist := ringDist_nextIdx h.proc_in_ring h.stor_in_ring hfull
      have hclean := h.rest_clean _ hadv.stored_lt (by dsimp only; omega)
      rw [ringStep_dist h.proc_in_ring hadv.stor_in_ring] at hclean
      exact congrArg Sample.valid hclean
  · rw [if_neg fun hadv => hvalid hadv.1]
    exact eq_false_of_ne_true hvalid

/-- A BCHK that fired without an overrun leaves the boundary at the store cursor, and no width there. -/
theorem atBoundary_storIdx (h : s.cap.Wf s.params) (hovr : s.atBoundary.faults.ovr = false) :
    s.atBoundary.cap.tgtIdx = s.atBoundary.cap.storIdx ∧
      (s.atBoundary.slot s.atBoundary.cap.storIdx).valid = false := by
  refine ⟨rfl, ?_⟩
  unfold State.atBoundary at hovr ⊢
  obtain ⟨x, n, hx⟩ := storePeriod_afterExt s s.port.c s.cap.lastRise (s.ext s.port.c s.cap.lastRise)
  rw [hx] at hovr ⊢
  refine (congrArg Sample.valid (slot_advanceIfWidth _ _)).trans ?_
  exact slot_storIdx_after_advance (s := s.stored x n) (h.write x) hovr

/-- At a slot with no width a firing BCHK writes that slot and moves the boundary to it, and no more. -/
theorem atBoundary_of_no_width (h : (s.slot s.cap.storIdx).valid = false) :
    ∃ x n, s.atBoundary = (s.stored x n).snapshot := by
  obtain ⟨x, n, hx⟩ := storePeriod_afterExt s s.port.c s.cap.lastRise (s.ext s.port.c s.cap.lastRise)
  refine ⟨x, n, ?_⟩
  rw [State.atBoundary, advanceIfWidth_of_no_width, hx]
  rw [slot_storePeriod_valid, afterExt_eq]
  exact h

/-- With the boundary at the store cursor and no width there, a BCHK moves no cursor, raises nothing, and writes at most
the slot at the store cursor. -/
theorem execBchk_at_boundary (htgt : s.cap.tgtIdx = s.cap.storIdx) (hwidth : (s.slot s.cap.storIdx).valid = false)
    (h : execBchk s = .next t) : t.cap.storIdx = s.cap.storIdx ∧ t.cap.tgtIdx = s.cap.tgtIdx ∧
      t.cap.procIdx = s.cap.procIdx ∧ t.faults = s.faults ∧ ∀ j ≠ s.cap.storIdx, t.slot j = s.slot j := by
  rcases execBchk_cases h with ⟨-, rfl⟩ | ⟨-, rfl⟩
  · obtain ⟨x, n, hx⟩ := atBoundary_of_no_width hwidth
    rw [hx]
    exact ⟨rfl, htgt.symm, rfl, rfl, fun _ hj => slot_stored_of_ne x n hj⟩
  · rw [afterExt_eq]
    exact ⟨rfl, rfl, rfl, rfl, fun _ _ => rfl⟩

/-- Settles O27: after the first BCHK the store cursor is at the boundary and at a slot with no width, so that a second
one advances nothing and writes only that slot, which is not in the window. -/
theorem repeatedBoundaryCheckIsHarmless : Obligations.RepeatedBoundaryCheckIsHarmless := by
  intro s t u port hinv hstored hquiet h hovr hu
  have hinv' : t.Inv := exec_keeps_inv hinv h
  rcases execBchk_cases h with ⟨-, rfl⟩ | ⟨hwaits, -⟩
  · obtain ⟨htgt, hwidth⟩ := atBoundary_storIdx hinv.cap hovr
    obtain ⟨hstor', htgt', hproc', hfaults', hslots'⟩ :=
      execBchk_at_boundary (s := { s.atBoundary.returns Code.ok with port := port }) htgt hwidth hu
    refine ⟨hstor', htgt', hproc', hfaults', fun j hj => hslots' j ?_⟩
    rintro rfl
    exact hinv'.cap.storIdx_not_mem_window hj
  · exact absurd ⟨hquiet, hstored⟩ hwaits

/-! ### The boundary after a silence (R140) -/

/-- With the overflow counter at its cap, the extended count is above `MAX_BIT_PERIOD` whatever `C` is (R8, R130). -/
theorem maxBitPeriod_lt_ext {m : U32} (c : Nat) (hrise : s.cap.lastRise < s.params.timerMod)
    (hcap : ovfCap s.params m ≤ s.cap.ovf) : m.toNat < s.ext c s.cap.lastRise := by
  have hdiv : m.toNat < s.params.timerMod * (m.toNat / s.params.timerMod + 1) :=
    Nat.lt_mul_div_succ _ (Nat.zero_lt_of_lt hrise)
  have hovf : s.params.timerMod * (m.toNat / s.params.timerMod + 1) + s.params.timerMod ≤
      s.cap.ovf * s.params.timerMod := by
    rw [Nat.mul_comm s.cap.ovf]
    exact Nat.mul_le_mul_left s.params.timerMod hcap
  unfold State.ext
  rw [if_pos (by omega)]
  omega

/-- A firing BCHK leaves its extended count in the slot that was current (R139). -/
theorem slot_atBoundary_period (h : s.cap.storIdx < s.cap.ring.length) :
    (s.atBoundary.slot s.cap.storIdx).period = s.ext s.port.c s.cap.lastRise := by
  rw [State.atBoundary, advanceIfWidth_storePeriod, afterExt_eq]
  simp [State.slot, State.snapshot, h]

/-- With a sample stored and the overflow counter at its cap, a BCHK fires whatever `C` is (R139, R140). -/
theorem execBchk_at_ovfCap (hring : s.cap.storIdx < s.cap.ring.length) (hstored : s.cap.storIdx ≠ s.cap.procIdx)
    (hrise : s.cap.lastRise < s.params.timerMod) (hcap : ovfCap s.params s.cfg.maxBitPeriod ≤ s.cap.ovf)
    (hc : s.port.c < s.params.timerMod) : ∃ t, execBchk s = .next t ∧
      s.cfg.maxBitPeriod.toNat < (t.slot s.cap.storIdx).period ∧ t.cap.tgtIdx = t.cap.storIdx := by
  have hquiet := maxBitPeriod_lt_ext s.port.c hrise hcap
  refine ⟨_, execBchk_fires hc ⟨hquiet, hstored⟩, ?_, rfl⟩
  exact hquiet.trans_eq (slot_atBoundary_period hring).symm

/-- A run goes on from the state its first step answers. -/
theorem run_succ {k : Nat} (h : step s = .next t) : core.run (k + 1) s = core.run k t := by
  have hcore : core.step s = .next t := h
  simp only [Host.Core.run, hcore]

/-- `n` overflows with nothing between them count up to the cap and change nothing else that a capture reads (R137). -/
theorem run_overflows (n k : Nat) {s : State} {rest : List Issue}
    (hin : s.inbox = List.replicate n (issue .ovf Ports.quiet) ++ rest) :
    ∃ t : State, core.run (n + k) s = core.run k t ∧ t.inbox = rest ∧ t.params = s.params ∧ t.cfg = s.cfg ∧
      t.cap = { s.cap with ovf := max s.cap.ovf (min (s.cap.ovf + n) (ovfCap s.params s.cfg.maxBitPeriod)) } := by
  induction n generalizing s with
  | zero => exact ⟨s, by rw [Nat.zero_add], hin, rfl, rfl, by simp⟩
  | succ n ih =>
    rw [List.replicate_succ, List.cons_append] at hin
    have hstep := (step_of_issue hin).trans (execOvf_eq _)
    obtain ⟨t, hrun, hinbox, hparams, hcfg, hcap⟩ := ih (inbox_of_step_issue hin hstep)
    refine ⟨t, ?_, hinbox, hparams, hcfg, hcap.trans ?_⟩
    · rw [Nat.add_right_comm, run_succ hstep, hrun]
    · dsimp only [State.returns]
      congr 1
      split <;> omega

/-- Settles O26: the overflows bring the counter to its cap, and there the BCHK fires. -/
theorem silenceMakesTheBoundaryFire : Obligations.SilenceMakesTheBoundaryFire := by
  intro s c n hinv hstored hc hn hin
  obtain ⟨t, hrun, hinbox, hparams, hcfg, hcap⟩ := run_overflows n 1 hin
  have hstor : t.cap.storIdx = s.cap.storIdx := by rw [hcap]
  obtain ⟨u, hfires, hperiod, htgt⟩ := execBchk_at_ovfCap
    (s := { t with port := { Ports.quiet with c := c }, inbox := [] })
    (by simpa [hcap, hinv.cap.ring_size] using hinv.cap.stor_in_ring) (by simpa [hcap] using hstored)
    (by simpa [hcap, hparams] using hinv.cap.rise_in_timer)
    (by simp only [hcap, hparams, hcfg, ovfCap]; omega) (by rwa [hparams])
  rw [hcfg, hstor] at hperiod
  refine ⟨u, ?_, hperiod, htgt⟩
  exact hrun.trans (run_succ ((step_of_issue hinbox).trans hfires))
end

end Sys2Proof.Machine

/-! PROOFS. The statements of 41_wordbuilder.md. First the pulse's class and symbol (R150, R151) and BUILD in its three
cases (R152, R162), then the statements of one window without a gap. A window with gaps is cut into its stretches: all
that the stretches before one leave is an empty accumulator and what the submissions of their words did (`Sent`; R157,
R159, R163), so the window is an induction over them. The round trip (R164) is one such stretch. -/

namespace Sys2Proof.Machine
section
variable {s t : State}

/-! ### Class and symbol (R150, R151) -/

/-- Settles O32: the class is a comparison of twice the width (`classify_eq`), and the symbol of
each class a comparison of the flag. -/
theorem classAndSymbolFollowTheDutyCycle : Obligations.ClassAndSymbolFollowTheDutyCycle := by
  refine ⟨fun w pm hpm => ?_, fun inv => ?_⟩
  · rw [classify_eq hpm]
    by_cases hw : 2 * w < pm
    · simp [hw]
    · simp [hw, Nat.not_lt.mp hw]
  · by_cases hinv : inv = 1#32 <;> simp [symbolOf, hinv]

/-- With a legal polarity flag a long pulse is 1 under flag 0, and a short one under flag 1 (R36, R151). -/
theorem symbolOf_of_legal {inv : U32} (h : inv.toNat ≤ 1) (cls : PulseClass) :
    symbolOf cls inv = if inv = 0#32 then decide (cls = .long) else decide (cls = .short) := by
  rcases (toNat_le_one inv).mp h with rfl | rfl <;> cases cls <;> rfl

theorem State.Inv.invertLogic_le (h : s.Inv) : s.cfg.invertLogic.toNat ≤ 1 := by
  obtain ⟨-, -, hflag, -, -⟩ := (CfgRegs.wellFormed_iff _).mp h.cfg
  exact hflag

/-! ### BUILD in its three cases (R152, R162) -/

/-- The samples of the window, in ring order (R152). -/
def State.samples (s : State) : List Sample := s.window.map s.slot

/-- The window's period mode (R153). -/
def State.periodMode (s : State) : Nat := mode0 (s.samples.map Sample.period)

/-- The state once the window is processed, before it is cleared (R154). -/
def State.processed (s : State) : State := s.samples.foldl (processSample s.periodMode s.port.t) s

theorem processed_frame (s : State) : s.processed =
    { s with acc := s.processed.acc, corr := s.processed.corr, faults := s.processed.faults, out := s.processed.out } :=
  processWindow_frame _ _ _ _

theorem execBuild_of_empty (h : s.cap.procIdx = s.cap.tgtIdx) : execBuild s = .next (s.returns Code.ok) := if_pos h

theorem execBuild_of_nonempty (hne : s.cap.procIdx ≠ s.cap.tgtIdx) : execBuild s =
    .next (((if s.periodMode = 0 then s.raise .div0 else s.processed).clearWindow s.window).returns Code.ok) :=
  if_neg hne

theorem execBuild_of_zero_mode (hne : s.cap.procIdx ≠ s.cap.tgtIdx) (h : s.periodMode = 0) :
    execBuild s = .next (((s.raise .div0).clearWindow s.window).returns Code.ok) := by
  rw [execBuild_of_nonempty hne, if_pos h]

theorem execBuild_of_mode (hne : s.cap.procIdx ≠ s.cap.tgtIdx) (h : 0 < s.periodMode) :
    execBuild s = .next ((s.processed.clearWindow s.window).returns Code.ok) := by
  rw [execBuild_of_nonempty hne, if_neg (Nat.ne_of_gt h)]

/-- A window with a period mode is not empty. -/
theorem procIdx_ne_tgtIdx (hinv : s.Inv) (h : 0 < s.periodMode) : s.cap.procIdx ≠ s.cap.tgtIdx := by
  intro heq
  have hdist : ringDist s.params.sampleCap s.cap.procIdx s.cap.tgtIdx = 0 := by
    rw [← heq, ringDist_eq hinv.cap.proc_in_ring hinv.cap.proc_in_ring]
    simp
  have hnone : s.periodMode = 0 := by simp [State.periodMode, State.samples, State.window, windowSlots, hdist, mode0]
  exact Nat.ne_of_gt h hnone

/-- BUILD on a window with a period mode: what it answers differs from the processed state in the ring, the consumer
cursor and the outputs alone. -/
theorem exec_build (hinv : s.Inv) (h : 0 < s.periodMode) :
    exec .build s = .next ((s.processed.clearWindow s.window).returns Code.ok) :=
  execBuild_of_mode (procIdx_ne_tgtIdx hinv h) h

/-- Settles O33: the first two cases of BUILD. -/
theorem buildDiscardsAZeroModeWindow : Obligations.BuildDiscardsAZeroModeWindow :=
  fun _ => ⟨execBuild_of_empty, execBuild_of_zero_mode⟩

/-! ### The window is cleared (R161) -/

/-- BUILD clears the window; besides, it writes the accumulator, the matcher, the fault bits, the log and its
outputs. -/
theorem execBuild_clears (hne : s.cap.procIdx ≠ s.cap.tgtIdx) : ∃ acc corr faults out, execBuild s = .next
    { s.clearWindow s.window with
      acc := acc, corr := corr, faults := faults, out := out, result := Code.ok, q := none } := by
  rcases Nat.eq_zero_or_pos s.periodMode with h | h
  · exact ⟨_, _, _, _, execBuild_of_zero_mode hne h⟩
  · refine ⟨s.processed.acc, s.processed.corr, s.processed.faults, s.processed.out, ?_⟩
    rw [execBuild_of_mode hne h, processed_frame]
    rfl

/-- The distance in the ring, as the statements write it. -/
theorem ringDist_eq_mod {n a : Nat} (ha : a < n) (b : Nat) : ringDist n a b = (b + n - a) % n := by
  rw [ringDist, Nat.mod_eq_of_lt ha, Nat.add_sub_assoc (Nat.le_of_lt ha)]

/-- Settles O34: `execBuild_clears`, with the window's slots named by their distance from its start. -/
theorem buildClearsItsWindow : Obligations.BuildClearsItsWindow := by
  intro s hinv hne n
  obtain ⟨acc, corr, faults, out, hbuild⟩ := execBuild_clears hne
  refine ⟨_, hbuild, rfl, rfl, rfl, ?_, fun i hi => ?_, rfl, rfl, rfl, rfl⟩
  · simpa using hinv.cap.ring_size
  · have hp := hinv.cap.proc_in_ring
    refine (slot_clearWindow s s.window i).trans ?_
    rw [State.window, ← ringDist_eq_mod hp, ← ringDist_eq_mod hp]
    simp [mem_windowSlots hp, show i < s.params.sampleCap from hi, Sample.clean]

/-! ### A window of one sample (R152 to R160) -/

@[simp] theorem mode0_singleton (p : Nat) : mode0 [p] = p := by simp [mode0, betterMode]

theorem window_of_dist_one (h : s.cap.procIdx < s.params.sampleCap)
    (hone : ringDist s.params.sampleCap s.cap.procIdx s.cap.tgtIdx = 1) : s.window = [s.cap.procIdx] := by
  simp [State.window, windowSlots, hone, Nat.mod_eq_of_lt h]

/-- A single sample is never a gap of its own mode: it is taken and counted. -/
theorem processed_of_single {j : Nat} (h : s.window = [j]) :
    s.periodMode = (s.slot j).period ∧
      s.processed = (takeSymbol (s.slot j).period s (s.slot j)).countSample := by
  have hsamples : s.samples = [s.slot j] := by simp [State.samples, h]
  have hmode : s.periodMode = (s.slot j).period := by simp [State.periodMode, hsamples]
  refine ⟨hmode, ?_⟩
  rw [State.processed, hsamples, hmode, List.foldl_cons, List.foldl_nil, processSample_of_not_gap (by omega)]

theorem isSyncSample_iff (s : State) : s.isSyncSample = true ↔ s.acc.nsamp = 0 ∧ s.cfg.ignoreSync = 1#32 := by
  simp [State.isSyncSample]

theorem setIfInBounds_eq_set {α : Type} {n i : Nat} (v : Vector α n) (a : α) (h : i < n) :
    v.setIfInBounds i a = v.set i a h := by
  simp [Vector.setIfInBounds, Vector.set, Array.setIfInBounds, h]

/-- Settles O35: the one sample is no gap, and the symbol part of its step has the three cases of `takeSymbol_cases`. -/
theorem buildTakesASingleSample : Obligations.BuildTakesASingleSample := by
  intro s hinv hone x cleared cls bit hpos
  have hp := hinv.cap.proc_in_ring
  have hwindow : s.window = [s.cap.procIdx] := window_of_dist_one hp (by rw [ringDist_eq_mod hp]; exact hone)
  obtain ⟨hmode, hprocessed⟩ := processed_of_single hwindow
  have hbuild : exec .build s =
      .next (((takeSymbol x.period s x).countSample.clearWindow [s.cap.procIdx]).returns Code.ok) := by
    rw [exec_build hinv (by rwa [hmode]), hprocessed, hwindow]
  rw [hbuild]
  rcases takeSymbol_cases x.period s x with ⟨hsync, htake⟩ | ⟨hdata, hfull, htake⟩ | ⟨hdata, hroom, htake⟩ <;>
    rw [htake]
  · have hsync := (isSyncSample_iff s).mp hsync
    exact ⟨fun _ => rfl, fun h => absurd hsync h, fun h => absurd hsync h⟩
  · have hdata := (isSyncSample_iff s).not.mp (by simp [hdata])
    exact ⟨fun h => absurd h hdata, fun _ _ => rfl, fun _ h => absurd hfull (Nat.ne_of_lt h)⟩
  · have hdata := (isSyncSample_iff s).not.mp (by simp [hdata])
    refine ⟨fun h => absurd h hdata, fun _ h => absurd h hroom, fun _ h => ?_⟩
    have hcls : classify x.width x.period = cls := classify_eq hpos _
    have hper : recordedPeriod s.cfg.timeoutUs x.period x.period = x.period := by simp [recordedPeriod]
    rw [hcls, hper, symbolOf_of_legal hinv.invertLogic_le, State.appendSymbol, setIfInBounds_eq_set _ _ h,
      setIfInBounds_eq_set _ _ h]
    rfl

/-! ### A window without a gap (R163) -/

/-- The first `n` entries of a vector, read one by one. -/
theorem getElem?_take_toList {α : Type} {n j : Nat} (v : Vector α 65) (h : j < 65) (hj : j < n) :
    (v.toList.take n)[j]? = some v[j] := by
  simp [hj, h]

section
variable {α : Type} {v w : Vector α 65} {m n j : Nat} {ys : List α}
  (hw : w.toList.take n = (v.toList.take m ++ ys).take 65)
include hw

/-- A vector whose entries are those of another with more behind them holds the old ones where they were. -/
theorem getElem_of_take_append_left (h : j < 65) (hm : j < m) (hn : j < n) : w[j] = v[j] := by
  apply Option.some.inj
  rw [← getElem?_take_toList w h hn, ← getElem?_take_toList v h hm, hw, List.getElem?_take_of_lt h,
    List.getElem?_append_left (by simp; omega)]

/-- The new ones follow in order. -/
theorem getElem_of_take_append_right (hle : m ≤ 65) (h : m + j < 65) (hn : m + j < n) {y : α} (hy : ys[j]? = some y) :
    w[m + j] = y := by
  have hlen : (v.toList.take m).length = m := by simpa using hle
  apply Option.some.inj
  rw [← getElem?_take_toList w h hn, hw, List.getElem?_take_of_lt h, List.getElem?_append_right (by omega), hlen,
    Nat.add_sub_cancel_left, hy]
end

theorem dataOf_eq (s : State) (xs : List Sample) :
    s.dataOf xs = if s.acc.nsamp = 0 ∧ s.cfg.ignoreSync = 1#32 then xs.tail else xs := by
  simp only [State.dataOf, isSyncSample_iff]

section
variable {pm : Nat} {xs : List Sample} (T : Taken pm xs s t)
include T

theorem Taken.cfg_eq : t.cfg = s.cfg := by rw [T.frame]

theorem Taken.corr_eq : t.corr = s.corr := by rw [T.frame]

theorem Taken.out_eq : t.out = s.out := by rw [T.frame]

/-- What the word held before stays in its place. -/
theorem Taken.old_position {j : Nat} (h : j < 65) (hj : j < s.acc.len) :
    t.acc.bits[j] = s.acc.bits[j] ∧ t.acc.recs[j] = s.acc.recs[j] := by
  have ht : j < t.acc.len := by rw [T.len]; omega
  exact ⟨getElem_of_take_append_left T.symbols h hj ht, getElem_of_take_append_left T.records h hj ht⟩

/-- The data samples follow in order. -/
theorem Taken.new_position (hl : s.acc.len ≤ 65) {j : Nat} {x : Sample} (h : s.acc.len + j < 65)
    (hx : xs[j]? = some x) : t.acc.bits[s.acc.len + j] = symbolOf (classify x.width pm) s.cfg.invertLogic ∧
      t.acc.recs[s.acc.len + j] = recordOf s.cfg.timeoutUs pm x := by
  have hj : j < xs.length := (List.getElem?_eq_some_iff.mp hx).1
  have ht : s.acc.len + j < t.acc.len := by rw [T.len]; omega
  exact ⟨getElem_of_take_append_right T.symbols hl h ht (by simp [hx]),
    getElem_of_take_append_right T.records hl h ht (by simp [hx])⟩
end

theorem recordOf_eq {pm : Nat} (h : 0 < pm) (timeoutUs : U32) (x : Sample) : recordOf timeoutUs pm x =
    { cls := if 2 * x.width < pm then .short else .long, width := x.width
      period := if timeoutUs.toNat < x.period then pm else x.period } := by
  rw [recordOf, classify_eq h]
  rfl

/-- Settles O36: the window's data samples are taken (`taken_of_no_gap`), and the word is read position by position. -/
theorem windowWithoutGapCarriesOver : Obligations.WindowWithoutGapCarriesOver := by
  intro s hinv samples pm data hpm hgap
  have hl : s.acc.len ≤ 65 := hinv.acc.len_le
  have hdata : s.dataOf samples = data := dataOf_eq s samples
  obtain ⟨T, hnsamp⟩ := taken_of_no_gap (t := s.port.t) hl hinv.acc.len_le_nsamp (hdata ▸ hgap)
  rw [hdata] at T
  refine ⟨_, exec_build hinv hpm, T.corr_eq, T.out_eq, hnsamp, T.len, fun j h hj => T.old_position h hj,
    fun j x h hx => ?_, T.faults⟩
  obtain ⟨hbit, hrec⟩ := T.new_position hl h hx
  rw [classify_eq hpm, symbolOf_of_legal hinv.invertLogic_le] at hbit
  exact ⟨hbit, hrec.trans (recordOf_eq hpm _ x)⟩

/-! ### A window with gaps (R163, R165) -/

/-- The data samples of a run that a word goes on with: all but its first when that is the word's synchronization
sample (R155). -/
def Acc.data (a : Acc) (cfg : CfgRegs) (xs : List Sample) : List Sample :=
  if a.nsamp = 0 ∧ cfg.ignoreSync = 1#32 then xs.tail else xs

/-- The symbols of a word once data samples are taken, as far as they fit (R154, R160). -/
def Acc.symbolsAfter (a : Acc) (cfg : CfgRegs) (pm : Nat) (xs : List Sample) : List Bool :=
  (a.symbols ++ xs.map fun x => symbolOf (classify x.width pm) cfg.invertLogic).take 65

/-- The records of a word once data samples are taken, as far as they fit. -/
def Acc.recordsAfter (a : Acc) (cfg : CfgRegs) (pm : Nat) (xs : List Sample) : List PosRec :=
  (a.records ++ xs.map (recordOf cfg.timeoutUs pm)).take 65

/-- The candidate of a word once data samples are taken (R159). -/
def Acc.wordAfter (a : Acc) (cfg : CfgRegs) (pm : Nat) (xs : List Sample) : Candidate where
  bits := a.symbolsAfter cfg pm xs
  longUs := mode0 (classWidths .long (a.recordsAfter cfg pm xs))
  shortUs := mode0 (classWidths .short (a.recordsAfter cfg pm xs))
  periodUs := mode0 ((a.recordsAfter cfg pm xs).map PosRec.period)
  polarity := decide (cfg.invertLogic = 1#32)

section
variable {pm : Nat} {xs : List Sample} (T : Taken pm xs s t)
include T

theorem Taken.candidate_eq : t.candidate = s.acc.wordAfter s.cfg pm xs := by
  have hsymbols : t.acc.symbols = s.acc.symbolsAfter s.cfg pm xs := T.symbols
  have hrecords : t.acc.records = s.acc.recordsAfter s.cfg pm xs := T.records
  rw [Machine.candidate_eq, hsymbols, hrecords, T.cfg_eq]
  rfl

/-- Taking samples raises `FAULT_WOVF` exactly if they do not fit, and no other fault bit (R160). -/
theorem Taken.faults_iff : t.faults.ovr = s.faults.ovr ∧ t.faults.div0 = s.faults.div0 ∧
    (t.faults.wovf = true ↔ s.faults.wovf = true ∨ 65 < s.acc.len + xs.length) := by
  rw [T.faults]
  split <;> simp [*]
end

/-- The accumulator that the `j`-th stretch of a window goes on with: what was carried over into the window for the
first, an empty one for every other (R159, R163). -/
def State.accAt (s : State) (j : Nat) : Acc := if j = 0 then s.acc else Acc.clear

/-- The data samples of the `j`-th stretch. -/
def State.dataAt (s : State) (j : Nat) (xs : List Sample) : List Sample := (s.accAt j).data s.cfg xs

/-- The word that the `j`-th stretch ends in. -/
def State.wordAt (s : State) (pm j : Nat) (xs : List Sample) : Candidate :=
  (s.accAt j).wordAfter s.cfg pm (s.dataAt j xs)

/-- The `j`-th stretch ends a word: its last data sample is a gap, and no other is (R157). -/
def State.endsWord (s : State) (pm j : Nat) (xs : List Sample) : Prop :=
  ∃ before last, s.dataAt j xs = before ++ [last] ∧
    (∀ x ∈ before, 10 * x.period ≤ 13 * pm) ∧ 13 * pm < 10 * last.period

/-- A data sample of the `j`-th stretch does not fit into its word (R160). -/
def State.overflowsAt (s : State) (j : Nat) (xs : List Sample) : Prop :=
  65 < (s.accAt j).len + (s.dataAt j xs).length

/-- The words of the stretches submitted in order (R159). -/
def State.submitted (s : State) (pm : Nat) (t : U32) (ends : List (List Sample)) : State :=
  (ends.mapIdx (s.wordAt pm)).foldl (fun u k => (submitCore k t u).1) s

theorem submitted_concat (s : State) (pm : Nat) (t : U32) (ends : List (List Sample)) (xs : List Sample) :
    s.submitted pm t (ends ++ [xs]) = (submitCore (s.wordAt pm ends.length xs) t (s.submitted pm t ends)).1 := by
  simp [State.submitted, List.mapIdx_append]

theorem submitted_cfg (s : State) (pm : Nat) (t : U32) (ends : List (List Sample)) :
    (s.submitted pm t ends).cfg = s.cfg := by
  induction ends using List.reverseRecOn with
  | nil => rfl
  | append_singleton ends xs ih => rw [submitted_concat, submitCore_frame, ih]

theorem accAt_wf (h : s.acc.Wf) (j : Nat) : (s.accAt j).Wf := by
  unfold State.accAt
  split
  · exact h
  · exact Acc.clear_wf

/-- The positions of a list with one more element behind it. -/
theorem getElem?_concat_eq_some {α : Type} {l : List α} {x y : α} {j : Nat} :
    (l ++ [x])[j]? = some y ↔ l[j]? = some y ∨ j = l.length ∧ y = x := by
  rcases Nat.lt_trichotomy j l.length with h | h | h
  · rw [List.getElem?_append_left h]
    simp [Nat.ne_of_lt h]
  · simp [h, eq_comm]
  · have hnot : j ≠ l.length := Nat.ne_of_gt h
    simp [hnot, List.getElem?_append_right (Nat.le_of_lt h), Nat.sub_ne_zero_of_lt h, Nat.le_of_lt h]

theorem exists_getElem?_concat {α : Type} {l : List α} {x : α} {p : Nat → α → Prop} :
    (∃ j y, (l ++ [x])[j]? = some y ∧ p j y) ↔ (∃ j y, l[j]? = some y ∧ p j y) ∨ p l.length x := by
  simp [getElem?_concat_eq_some, or_and_right, exists_or, and_assoc]

/-- `u` is `s` after the stretches `ends`, each of which has ended its word: their words are submitted, and the
accumulator is as the next stretch finds it. -/
structure Sent (pm : Nat) (tm : U32) (ends : List (List Sample)) (s u : State) : Prop where
  acc : u.acc = s.accAt ends.length
  cfg : u.cfg = s.cfg
  corr : u.corr = (s.submitted pm tm ends).corr
  out : u.out = (s.submitted pm tm ends).out
  ovr : u.faults.ovr = s.faults.ovr
  div0 : u.faults.div0 = s.faults.div0
  wovf : u.faults.wovf = true ↔ s.faults.wovf = true ∨ ∃ j xs, ends[j]? = some xs ∧ s.overflowsAt j xs

section
variable {pm : Nat} {tm : U32} {ends : List (List Sample)} {u v : State} {xs : List Sample}

theorem Sent.dataOf (S : Sent pm tm ends s u) (xs : List Sample) : u.dataOf xs = s.dataAt ends.length xs := by
  rw [dataOf_eq, S.acc, S.cfg]
  rfl

/-- The accumulator at the next stretch meets what the laws of a run of samples ask of it. -/
theorem Sent.acc_wf (S : Sent pm tm ends s u) (h : s.acc.Wf) : u.acc.Wf := S.acc ▸ accAt_wf h _

/-- `FAULT_WOVF` after one more stretch. -/
theorem Sent.faults_taken (S : Sent pm tm ends s u) (T : Taken pm (u.dataOf xs) u v) :
    v.faults.ovr = s.faults.ovr ∧ v.faults.div0 = s.faults.div0 ∧
    (v.faults.wovf = true ↔
      s.faults.wovf = true ∨ ∃ j ys, (ends ++ [xs])[j]? = some ys ∧ s.overflowsAt j ys) := by
  obtain ⟨hovr, hdiv0, hwovf⟩ := T.faults_iff
  refine ⟨hovr.trans S.ovr, hdiv0.trans S.div0, ?_⟩
  rw [hwovf, S.wovf, exists_getElem?_concat, S.dataOf, S.acc, or_assoc]
  rfl

/-- One more stretch ends its word. -/
theorem Sent.finalized (S : Sent pm tm ends s u) (T : Taken pm (u.dataOf xs) u v) :
    Sent pm tm (ends ++ [xs]) s (finalize tm v) := by
  obtain ⟨hovr, hdiv0, hwovf⟩ := S.faults_taken T
  have hword : v.candidate = s.wordAt pm ends.length xs := by
    rw [T.candidate_eq, S.dataOf, S.acc, S.cfg]
    rfl
  have hcfg : v.cfg = s.cfg := T.cfg_eq.trans S.cfg
  obtain ⟨hcorr, hout⟩ := submitCore_congr (k := s.wordAt pm ends.length xs) (t := tm)
    (hcfg.trans (submitted_cfg s pm tm ends).symm) (T.corr_eq.trans S.corr) (T.out_eq.trans S.out)
  rw [← submitted_concat, ← hword] at hcorr hout
  rw [finalize_frame]
  exact ⟨by simp [State.accAt], hcfg, hcorr, hout, hovr, hdiv0, hwovf⟩

/-- Stretches that end their words, processed in order, leave their words submitted. -/
theorem sent_foldl (hacc : s.acc.Wf) (hends : ∀ j xs, ends[j]? = some xs → s.endsWord pm j xs) :
    Sent pm tm ends s (ends.flatten.foldl (processSample pm tm) s) := by
  induction ends using List.reverseRecOn with
  | nil => exact ⟨rfl, rfl, rfl, rfl, rfl, rfl, by simp⟩
  | append_singleton ends xs ih =>
    have S := ih fun j ys hj => hends j ys (getElem?_concat_eq_some.mpr (.inl hj))
    obtain ⟨before, last, hdata, hbefore, hlast⟩ := hends _ xs (getElem?_concat_eq_some.mpr (.inr ⟨rfl, rfl⟩))
    have hwf := S.acc_wf hacc
    obtain ⟨v, T, hfold⟩ := taken_of_final_gap (t := tm) hwf.len_le hwf.len_le_nsamp
      ((S.dataOf xs).trans hdata) hbefore hlast
    rw [List.flatten_append, List.foldl_append, List.flatten_singleton, hfold]
    exact S.finalized T

/-- A window cut into stretches that end their words and a rest that does not: the words are submitted, and the rest is
taken into the word that follows them. -/
theorem processed_of_cut (hacc : s.acc.Wf) {rest : List Sample} (hcut : s.samples = ends.flatten ++ rest)
    (hends : ∀ j xs, ends[j]? = some xs → s.endsWord s.periodMode j xs)
    (hrest : ∀ x ∈ s.dataAt ends.length rest, 10 * x.period ≤ 13 * s.periodMode) :
    ∃ u, Sent s.periodMode s.port.t ends s u ∧ Taken s.periodMode (u.dataOf rest) u s.processed ∧
      s.processed.acc.nsamp = u.acc.nsamp + rest.length := by
  have S := sent_foldl (tm := s.port.t) hacc hends
  have hwf := S.acc_wf hacc
  refine ⟨_, S, ?_⟩
  rw [State.processed, hcut, List.foldl_append]
  exact taken_of_no_gap hwf.len_le hwf.len_le_nsamp (by rwa [S.dataOf])
end

theorem length_symbols {a : Acc} (h : a.len ≤ 65) : a.symbols.length = a.len := by simp [Acc.symbols, h]

theorem accAt_nsamp (s : State) (j : Nat) : (s.accAt j).nsamp = if j = 0 then s.acc.nsamp else 0 := by
  unfold State.accAt
  split <;> rfl

theorem accAt_len (s : State) (j : Nat) : (s.accAt j).len = if j = 0 then s.acc.len else 0 := by
  unfold State.accAt
  split <;> rfl

theorem accAt_symbols (s : State) (j : Nat) :
    (s.accAt j).symbols = if j = 0 then s.acc.bits.toList.take s.acc.len else [] := by
  unfold State.accAt
  split <;> rfl

theorem accAt_records (s : State) (j : Nat) :
    (s.accAt j).records = if j = 0 then s.acc.recs.toList.take s.acc.len else [] := by
  unfold State.accAt
  split <;> rfl

theorem dataAt_eq (s : State) (j : Nat) (xs : List Sample) : s.dataAt j xs =
    if (j = 0 → s.acc.nsamp = 0) ∧ s.cfg.ignoreSync = 1#32 then xs.tail else xs := by
  have hstart : (if j = 0 then s.acc.nsamp else 0) = 0 ↔ (j = 0 → s.acc.nsamp = 0) := by split <;> simp [*]
  simp only [State.dataAt, Acc.data, accAt_nsamp, hstart]

/-- Settles O37: `processed_of_cut`, its words, the rest and the faults written out. -/
theorem gapsCutTheWindowIntoWords : Obligations.GapsCutTheWindowIntoWords := by
  intro s ends rest hinv samples pm inv data record bits recs word sent hpm hcut hends hrest
  have hdata : ∀ j xs, s.dataAt j xs = data j xs := dataAt_eq s
  have hbits : ∀ j xs, (s.accAt j).symbolsAfter s.cfg pm (s.dataAt j xs) = bits j xs := fun j xs => by
    simp only [Acc.symbolsAfter, symbolOf_classify _ _ hpm, accAt_symbols, hdata]
    rfl
  have hrecs : ∀ j xs, (s.accAt j).recordsAfter s.cfg pm (s.dataAt j xs) = recs j xs := fun j xs => by
    have hrecord : recordOf s.cfg.timeoutUs pm = record := funext (recordOf_eq hpm _)
    rw [Acc.recordsAfter, hrecord, accAt_records, hdata]
  have hword : s.wordAt pm = word := by
    funext j xs
    rw [State.wordAt, Acc.wordAfter, hbits, hrecs]
    rfl
  have hsent : s.submitted pm s.port.t ends = sent := by rw [State.submitted, hword]
  obtain ⟨u, S, T, hnsamp⟩ := processed_of_cut hinv.acc hcut (fun j xs hj => by
    rw [State.endsWord, hdata]
    exact hends j xs hj) (by rwa [hdata])
  have hbuild := exec_build hinv hpm
  have hacc : s.processed.acc.Wf := (exec_keeps_inv hinv hbuild).acc
  have hsymbols : s.processed.acc.symbols = bits ends.length rest := by
    rw [T.symbols, ← hbits, S.dataOf, S.acc, S.cfg]
    rfl
  have hrecords : s.processed.acc.records = recs ends.length rest := by
    rw [T.records, ← hrecs, S.dataOf, S.acc, S.cfg]
    rfl
  obtain ⟨hovr, hdiv0, hwovf⟩ := S.faults_taken T
  refine ⟨_, hbuild, ?_, ?_, ?_, ?_, hsymbols, hrecords, hacc.rest_clear, hovr, hdiv0, hwovf.trans ?_⟩
  · exact T.corr_eq.trans (S.corr.trans (congrArg State.corr hsent))
  · exact T.out_eq.trans (S.out.trans (congrArg State.out hsent))
  · refine hnsamp.trans ?_
    rw [S.acc, accAt_nsamp]
    simp only [List.length_eq_zero_iff]
  · exact (length_symbols hacc.len_le).symm.trans (congrArg List.length hsymbols)
  · simp only [State.overflowsAt, hdata, accAt_len]

/-! ### The round trip through the duty mapping (R164) -/

/-- The only member of a list is its mode. -/
theorem mode0_of_mem_iff {xs : List Nat} {a : Nat} {p : Prop} [Decidable p] (h : ∀ w, w ∈ xs ↔ p ∧ w = a) :
    mode0 xs = if p then a else 0 := by
  by_cases hp : p
  · rw [if_pos hp]
    have ha : a ∈ xs := (h a).mpr ⟨hp, rfl⟩
    exact ((h _).mp (mode0_spec (List.ne_nil_of_mem ha)).1).2
  · have hnone : xs = [] := List.eq_nil_iff_forall_not_mem.mpr fun w hw => hp ((h w).mp hw).1
    rw [if_neg hp, hnone]
    rfl

/-- One greater value behind a run of equal ones does not change the mode, not even where each occurs once (R15). -/
theorem mode0_replicate_append {n a b : Nat} (hn : n ≠ 0) (hle : a ≤ b) : mode0 (List.replicate n a ++ [b]) = a := by
  obtain ⟨hmem, hbest⟩ := mode0_spec (xs := List.replicate n a ++ [b]) (by simp)
  obtain ⟨hcount, htie⟩ := hbest a (by simp [hn])
  generalize mode0 (List.replicate n a ++ [b]) = m at *
  by_contra hne
  have hm : m = b := by simpa [hne] using hmem
  subst hm
  have hone : (List.replicate n a ++ [m]).count m = 1 := by simp [List.count_replicate, Ne.symm hne]
  have hmany : (List.replicate n a ++ [m]).count a = n := by simp [hne]
  have := htie (by omega)
  omega

/-- The duty value of a bit (43_scheduler.md R200): short where the bit is the polarity flag's, else long. -/
def bitDuty (cfg : CfgRegs) (b : Bool) : U32 := if b = decide (cfg.invertLogic = 1#32) then cfg.txShort else cfg.txLong

/-- A bit string is prepared as the duty values of its bits. -/
theorem prepare_bits {cfg : CfgRegs} (hflag : cfg.invertLogic.toNat ≤ 1) (str : List Bool) :
    prepare cfg (str.map fun b => if b then 0x31#8 else 0x30#8) = some (str.map (bitDuty cfg) ++ [0#32]) := by
  have hbyte : ∀ b : Bool, (if (if b then 0x31#8 else 0x30#8) = 0x31#8
      then (if cfg.invertLogic = 0#32 then cfg.txLong else cfg.txShort)
      else (if cfg.invertLogic = 0#32 then cfg.txShort else cfg.txLong)) = bitDuty cfg b := fun b => by
    rcases (toNat_le_one _).mp hflag with h | h <;> cases b <;> simp [bitDuty, h]
  rw [prepare, dutiesOf_eq_some, List.map_map]
  · simp only [Function.comp_def, hbyte, Option.map_some]
  · intro x hx
    obtain ⟨b, -, rfl⟩ := List.mem_map.mp hx
    cases b <;> simp

/-- The sample of a bit received with its duty value as its width. -/
def receivedBit (cfg : CfgRegs) (period : Nat) (b : Bool) : Sample where
  period := period
  width := (bitDuty cfg b).toNat
  valid := true

/-- The samples of a bit string received one period apart, and a gap after the last bit. -/
def received (cfg : CfgRegs) (period gap : Nat) (bits : List Bool) (last : Bool) : List Sample :=
  bits.map (receivedBit cfg period) ++ [receivedBit cfg gap last]

theorem received_eq (cfg : CfgRegs) (period gap : Nat) (bits : List Bool) (last : Bool) :
    (List.range (bits ++ [last]).length).map (fun j =>
      { period := if j + 1 = (bits ++ [last]).length then gap else period
        width := (((bits ++ [last]).map (bitDuty cfg) ++ [0#32]).getD j 0#32).toNat, valid := true }) =
      received cfg period gap bits last := by
  apply List.ext_getElem
  · simp [received]
  · intro j hj hj'
    have hlt : j < bits.length + 1 := by simpa using hj
    by_cases h : j < bits.length
    · have hne : j ≠ bits.length := Nat.ne_of_lt h
      simp [received, receivedBit, h, hne, List.getElem?_append]
    · obtain rfl : j = bits.length := by omega
      simp [received, receivedBit, List.getElem?_append]

section
variable {cfg : CfgRegs} {period gap : Nat} {bits : List Bool} {last : Bool}

theorem received_tail (hne : bits ≠ []) :
    (received cfg period gap bits last).tail = received cfg period gap bits.tail last := by
  cases bits with
  | nil => exact absurd rfl hne
  | cons b bs => rfl

theorem widths_received :
    (received cfg period gap bits last).map Sample.width = (bits ++ [last]).map fun b => (bitDuty cfg b).toNat := by
  simp [received, receivedBit, Function.comp_def]

theorem periods_received :
    (received cfg period gap bits last).map Sample.period = List.replicate bits.length period ++ [gap] := by
  simp [received, receivedBit, Function.comp_def]

/-- The period of a received word: its bits' one, or that of the gap where the gap alone is recorded (R156). -/
theorem mode0_recorded_gap (timeoutUs : U32) (last : Bool) (hle : period ≤ gap) :
    mode0 (List.replicate bits.length period ++ [recordedPeriod timeoutUs period gap]) =
      if (bits ++ [last]).length = 1 ∧ gap ≤ timeoutUs.toNat then gap else period := by
  unfold recordedPeriod
  by_cases hbits : bits = []
  · by_cases hkept : gap ≤ timeoutUs.toNat
    · simp [hbits, hkept, Nat.not_lt.mpr hkept]
    · simp [hbits, hkept, Nat.lt_of_not_le hkept]
  · have hlen : bits.length ≠ 0 := by simpa using hbits
    rw [mode0_replicate_append hlen (by split <;> omega)]
    simp [hlen]

/-- What a word records of a run's widths, of one class. -/
theorem classWidths_recordOf (cls : PulseClass) (timeoutUs : U32) (pm : Nat) (xs : List Sample) :
    classWidths cls (xs.map (recordOf timeoutUs pm)) =
      (xs.map Sample.width).filter fun w => decide (classify w pm = cls) := by
  simp only [classWidths, List.filter_map, List.map_map]
  rfl

/-- What a word records of a run's periods. -/
theorem periods_recordOf (timeoutUs : U32) (pm : Nat) (xs : List Sample) :
    (xs.map (recordOf timeoutUs pm)).map PosRec.period = (xs.map Sample.period).map (recordedPeriod timeoutUs pm) := by
  simp [recordOf, Function.comp_def]

/-- The recorded widths of one class have the duty value of that class as their mode, if there are any. -/
theorem mode0_classWidths_received (cls : PulseClass) (timeoutUs : U32) (c : Bool)
    (hc : ∀ b, classify (bitDuty cfg b).toNat period = cls ↔ b = c) :
    mode0 (classWidths cls ((received cfg period gap bits last).map (recordOf timeoutUs period))) =
      if (bits ++ [last]).contains c then (bitDuty cfg c).toNat else 0 := by
  rw [classWidths_recordOf, widths_received]
  apply mode0_of_mem_iff
  intro w
  simp only [List.mem_filter, List.mem_map, decide_eq_true_eq, List.contains_iff_mem]
  constructor
  · rintro ⟨⟨b, hb, rfl⟩, hcls⟩
    obtain rfl := (hc b).mp hcls
    exact ⟨hb, rfl⟩
  · rintro ⟨hmem, rfl⟩
    exact ⟨⟨c, hmem, rfl⟩, (hc c).mpr rfl⟩

variable (hshort : 2 * cfg.txShort.toNat < period) (hlong : period ≤ 2 * cfg.txLong.toNat)
include hshort hlong

/-- The duty values fall on their sides of the classifier's bound (R150, R164). -/
theorem classify_bitDuty (b : Bool) : classify (bitDuty cfg b).toNat period =
    if b = decide (cfg.invertLogic = 1#32) then .short else .long := by
  rw [classify_eq (by omega), bitDuty]
  by_cases hb : b = decide (cfg.invertLogic = 1#32)
  · rw [if_pos hb, if_pos hb, if_pos hshort]
  · rw [if_neg hb, if_neg hb, if_neg (by omega)]

/-- A bit sent is the symbol received. -/
theorem symbolOf_bitDuty (b : Bool) : symbolOf (classify (bitDuty cfg b).toNat period) cfg.invertLogic = b := by
  rw [classify_bitDuty hshort hlong]
  cases b <;> cases h : decide (cfg.invertLogic = 1#32) <;> simp [symbolOf, h]

theorem classify_bitDuty_short (b : Bool) :
    classify (bitDuty cfg b).toNat period = .short ↔ b = decide (cfg.invertLogic = 1#32) := by
  rw [classify_bitDuty hshort hlong]
  split <;> simp [*]

theorem classify_bitDuty_long (b : Bool) :
    classify (bitDuty cfg b).toNat period = .long ↔ b = !decide (cfg.invertLogic = 1#32) := by
  rw [classify_bitDuty hshort hlong, Bool.eq_not]
  split <;> simp [*]

/-- The word that a received bit string makes in an empty accumulator. -/
theorem wordAfter_received (hgap : 13 * period < 10 * gap) (hfit : (bits ++ [last]).length ≤ 65) :
    Acc.clear.wordAfter cfg period (received cfg period gap bits last) =
      { bits := bits ++ [last]
        longUs := if (bits ++ [last]).contains (!decide (cfg.invertLogic = 1#32)) then cfg.txLong.toNat else 0
        shortUs := if (bits ++ [last]).contains (decide (cfg.invertLogic = 1#32)) then cfg.txShort.toNat else 0
        periodUs := if (bits ++ [last]).length = 1 ∧ gap ≤ cfg.timeoutUs.toNat then gap else period
        polarity := decide (cfg.invertLogic = 1#32) } := by
  have hlen : (received cfg period gap bits last).length ≤ 65 := by simpa [received] using hfit
  have hsymbols : Acc.clear.symbolsAfter cfg period (received cfg period gap bits last) = bits ++ [last] := by
    have hmap : (received cfg period gap bits last).map (fun x => symbolOf (classify x.width period) cfg.invertLogic) =
        ((received cfg period gap bits last).map Sample.width).map
          fun w => symbolOf (classify w period) cfg.invertLogic := by simp
    rw [Acc.symbolsAfter, hmap, widths_received, List.map_map]
    simp only [Function.comp_def, symbolOf_bitDuty hshort hlong, List.map_id']
    exact List.take_of_length_le hfit
  have hrecords : Acc.clear.recordsAfter cfg period (received cfg period gap bits last) =
      (received cfg period gap bits last).map (recordOf cfg.timeoutUs period) :=
    List.take_of_length_le (by simpa [Acc.records, Acc.clear] using hlen)
  have hperiods : mode0 (((received cfg period gap bits last).map (recordOf cfg.timeoutUs period)).map PosRec.period) =
      if (bits ++ [last]).length = 1 ∧ gap ≤ cfg.timeoutUs.toNat then gap else period := by
    have hp : recordedPeriod cfg.timeoutUs period period = period := by simp [recordedPeriod]
    rw [periods_recordOf, periods_received, List.map_append, List.map_replicate, hp, List.map_singleton]
    exact mode0_recorded_gap _ _ (by omega)
  rw [Acc.wordAfter, hsymbols, hrecords, hperiods,
    mode0_classWidths_received .long _ _ (classify_bitDuty_long hshort hlong),
    mode0_classWidths_received .short _ _ (classify_bitDuty_short hshort hlong)]
  simp [bitDuty]
end

/-- A received bit string ends its word: only the gap behind its last bit is a gap. -/
theorem endsWord_of_received {period gap j : Nat} {bits : List Bool} {last : Bool} {xs : List Sample}
    (hdata : s.dataAt j xs = received s.cfg period gap bits last) (hgap : 13 * period < 10 * gap) :
    s.endsWord period j xs := by
  refine ⟨bits.map (receivedBit s.cfg period), receivedBit s.cfg gap last, hdata, fun x hx => ?_, hgap⟩
  obtain ⟨b, -, rfl⟩ := List.mem_map.mp hx
  show 10 * period ≤ 13 * period
  omega

/-- A window that is one stretch leaves its word submitted and the accumulator empty. -/
theorem sent_of_one_word (hacc : s.acc.Wf) (h : s.endsWord s.periodMode 0 s.samples) :
    Sent s.periodMode s.port.t [s.samples] s s.processed := by
  have hone := sent_foldl (tm := s.port.t) (ends := [s.samples]) hacc fun j xs hj => by
    obtain ⟨rfl, rfl⟩ : j = 0 ∧ s.samples = xs := by simpa [List.getElem?_singleton] using hj
    exact h
  rwa [List.flatten_singleton] at hone

/-- Settles O38: the window is one stretch that ends its word (`sent_foldl`), and its word is the bit string, without
its first bit where that is the synchronization symbol. -/
theorem dutyRoundTripRecoversTheWord : Obligations.DutyRoundTripRecoversTheWord := by
  intro s str ds period gap hinv hclear hmin hmax hshort hlong hgap hprep hwindow inv word k
  obtain ⟨bits, last, rfl⟩ : ∃ bits last, str = bits ++ [last] :=
    ⟨_, _, (List.dropLast_append_getLast (List.ne_nil_of_length_pos (by omega))).symm⟩
  have hne : bits ≠ [] := by rintro rfl; simp at hmin
  have hds : (bits ++ [last]).map (bitDuty s.cfg) ++ [0#32] = ds :=
    Option.some.inj ((prepare_bits hinv.invertLogic_le _).symm.trans hprep)
  have hsamples : s.samples = received s.cfg period gap bits last := by
    rw [← received_eq, hds]
    exact hwindow
  have hmode : s.periodMode = period := by
    rw [State.periodMode, hsamples, periods_received]
    exact mode0_replicate_append (by simpa using hne) (by omega)
  obtain ⟨bits', hdata, hword⟩ : ∃ bits',
      s.dataAt 0 s.samples = received s.cfg period gap bits' last ∧ word = bits' ++ [last] := by
    rw [dataAt_eq, hsamples, received_tail hne]
    by_cases hsync : s.cfg.ignoreSync = 1#32
    · exact ⟨bits.tail, by simp [hsync, hclear, Acc.clear], by simp [word, hsync, List.tail_append_of_ne_nil hne]⟩
    · exact ⟨bits, by simp [hsync], by simp [word, hsync]⟩
  have hfit : (bits' ++ [last]).length ≤ 65 := by
    rw [← hword]
    refine Nat.le_trans ?_ hmax
    dsimp only [word]
    split <;> simp
  have hk : s.wordAt period 0 s.samples = k := by
    rw [State.wordAt, hdata, show s.accAt 0 = Acc.clear from hclear, wordAfter_received hshort hlong hgap hfit, ← hword]
  have S := sent_of_one_word hinv.acc (hmode.symm ▸ endsWord_of_received hdata hgap)
  rw [hmode] at S
  have hsubmitted : s.submitted period s.port.t [s.samples] = (submitCore k s.port.t s).1 := by
    rw [← hk]
    rfl
  refine ⟨_, exec_build hinv (by omega), S.acc, ?_, ?_⟩
  · exact S.corr.trans (congrArg State.corr hsubmitted)
  · exact S.out.trans (congrArg State.out hsubmitted)
end

end Sys2Proof.Machine


/-! PROOFS. The statements of 42_matcher.md. First the length filter, the stale test and the write to the ring (R180,
R182 to R184), then the scan as the search of the first elected slot (R185, R186), and from these what a submission
answers (R181, R187, R188). The consequences for repeated submissions (R189, R191) are about rings that hold nothing
but copies of one candidate, each directly behind the next: insertion adds a copy, and the scan depends on their
number. -/

namespace Sys2Proof.Machine
section
variable {c : Corr} {s t : State} {k a : Candidate} {tm : U32} {thresh : Nat} {f : Fin Config.nCorr}

/-! ### The length filter and the stale test (R180, R182) -/

theorem lengthOk_iff {cfg : CfgRegs} {n : Nat} : lengthOk cfg n = true ↔
    cfg.minWordLen.toNat ≤ n ∧ n ≤ cfg.maxWordLen.toNat + (if cfg.ignoreSync = 0#32 then 1 else 0) := by
  simp [lengthOk]

theorem elapsed_eq (a b : U32) : elapsed a b = (a.toNat + 2 ^ 32 - b.toNat) % 2 ^ 32 := by
  have hb := b.isLt
  rw [elapsed, BitVec.toNat_sub]
  congr 1
  omega

theorem isStale_iff : s.isStale tm = true ↔ s.cfg.timeoutUs.toNat ≤ elapsed tm s.corr.lastInsertMs * 1000 := by
  simp [State.isStale]

/-- The bit that says the ring was cleared before the insertion. -/
def State.staleBit (s : State) (tm : U32) : Code := if s.isStale tm then Code.staleReset else 0#8

theorem staleBit_of_stale (h : s.isStale tm = true) : s.staleBit tm = 0x80#8 := if_pos h

theorem staleBit_of_not_stale (h : s.isStale tm = false) : s.staleBit tm = 0x00#8 := by
  simp [State.staleBit, h]

theorem staleBit_cases (s : State) (tm : U32) : s.staleBit tm = 0x80#8 ∨ s.staleBit tm = 0x00#8 := by
  cases h : s.isStale tm with
  | true => exact .inl (staleBit_of_stale h)
  | false => exact .inr (staleBit_of_not_stale h)

theorem stored_staleBit_cases (s : State) (tm : U32) :
    Code.stored ||| s.staleBit tm = 0x11#8 ∨ Code.stored ||| s.staleBit tm = 0x91#8 := by
  obtain hbit | hbit := staleBit_cases s tm <;> rw [hbit] <;> decide

/-! ### The write to the ring (R182 to R184) -/

theorem Corr.invalidate_eq (c : Corr) :
    c.invalidate = { c with lc := if c.lc = some c.widx then none else c.lc } := by
  unfold Corr.invalidate
  split <;> rfl

theorem Corr.insert_slots (c : Corr) (k : Candidate) (tm : U32) (j : Fin Config.nCorr) :
    (c.insert k tm).slots[j.val] = if j = c.widx then some k else c.slots[j.val] := by
  simp only [Corr.insert, Vector.getElem_set, Fin.ext_iff, eq_comm]

theorem Corr.insert_widx (c : Corr) (k : Candidate) (tm : U32) :
    (c.insert k tm).widx.val = (c.widx.val + 1) % 12 := rfl

theorem inserted_of_stale (h : s.isStale tm = true) : s.inserted k tm = s.corr.cleared.insert k tm := by
  simp [State.inserted, h, Corr.invalidate_eq, Corr.cleared]

theorem inserted_of_not_stale (h : s.isStale tm = false) : s.inserted k tm = s.corr.invalidate.insert k tm := by
  simp [State.inserted, h]

/-! ### The scan (R185, R186) -/

/-- Slot `j` holds `a`, may start a vote, and wins it. -/
def Corr.Elects (c : Corr) (thresh : Nat) (j : Fin Config.nCorr) (a : Candidate) : Prop :=
  c.slots[j.val] = some a ∧ c.wins thresh j a = true

/-- What the scan takes from slot `j`. -/
def Corr.elected (c : Corr) (thresh : Nat) (j : Fin Config.nCorr) : Option (Fin Config.nCorr × Candidate) :=
  (c.slots[j.val]).bind fun a => if c.wins thresh j a then some (j, a) else none

theorem elected_eq_some_iff {j : Fin Config.nCorr} :
    c.elected thresh j = some (f, a) ↔ j = f ∧ c.Elects thresh f a := by
  simp only [Corr.elected, Corr.Elects, Option.bind_eq_some_iff, Option.ite_none_right_eq_some, Option.some.injEq,
    Prod.mk.injEq]
  constructor
  · rintro ⟨b, hb, hw, rfl, rfl⟩
    exact ⟨rfl, hb, hw⟩
  · rintro ⟨rfl, hb, hw⟩
    exact ⟨a, hb, hw, rfl, rfl⟩

theorem elected_eq_none_iff {j : Fin Config.nCorr} :
    c.elected thresh j = none ↔ ∀ b, ¬c.Elects thresh j b := by
  simp [Corr.elected, Corr.Elects, Option.bind_eq_none_iff]

theorem scan_eq_findSome? (c : Corr) (thresh : Nat) : c.scan thresh = Fin.findSome? (c.elected thresh) := by
  rw [Fin.findSome?_eq_findSome?_finRange]
  show List.findSome? _ slotOrder = List.findSome? _ slotOrder
  congr 1
  funext j
  unfold Corr.elected
  cases c.slots[j.val] <;> rfl

theorem scan_eq_some_iff :
    c.scan thresh = some (f, a) ↔ c.Elects thresh f a ∧ ∀ g < f, ∀ b, ¬c.Elects thresh g b := by
  simp only [scan_eq_findSome?, Fin.findSome?_eq_some_iff, elected_eq_some_iff, elected_eq_none_iff]
  constructor
  · rintro ⟨j, ⟨rfl, he⟩, hlow⟩
    exact ⟨he, hlow⟩
  · rintro ⟨he, hlow⟩
    exact ⟨f, ⟨rfl, he⟩, hlow⟩

theorem scan_eq_none_iff : c.scan thresh = none ↔ ∀ g b, ¬c.Elects thresh g b := by
  simp only [scan_eq_findSome?, Fin.findSome?_eq_none_iff, elected_eq_none_iff]

theorem Corr.behind_eq (c : Corr) (j : Fin Config.nCorr) : c.behind j = (c.widx.val + 12 - j.val) % 12 := by
  have hj : j.val < 12 := j.isLt
  rw [Corr.behind, Fin.sub_def]
  show (12 - j.val + c.widx.val) % 12 = _
  congr 1
  omega

theorem announced_eq_false_iff : c.announced a = false ↔
    ∀ l b, c.lc = some l → c.slots[l.val] = some b → b.bits ≠ a.bits := by
  simp only [Corr.announced, same, Option.any_eq_false, beq_eq_false_iff_ne, ne_comm (a := a.bits)]
  exact ⟨fun h l b hl => h l hl b, fun h l hl b => h l b hl⟩

/-- The votes are counted over the slots, each once (R186). -/
theorem votes_eq_card (c : Corr) (a : Candidate) :
    c.votes a = (Finset.univ.filter fun j : Fin 12 => ∃ b, c.slots[j.val] = some b ∧ b.bits = a.bits).card := by
  have hlist : c.slots.toList = (List.finRange 12).map fun j => c.slots[j.val] := by
    apply List.ext_getElem <;> simp
  rw [Corr.votes, hlist, List.countP_map, List.countP_eq_length_filter]
  show _ = (List.filter _ (List.finRange 12)).length
  congr 2
  funext j
  rw [Bool.eq_iff_iff]
  simp [Option.any_eq_true, same]

theorem elects_iff {j : Fin Config.nCorr} : c.Elects thresh j a ↔
    c.slots[j.val] = some a ∧ thresh ≤ c.behind j ∧ c.announced a = false ∧ thresh ≤ c.votes a := by
  simp [Corr.Elects, Corr.wins, and_assoc]

/-- Settles O41: the scan is the library's search of the first slot (`scan_eq_findSome?`). -/
theorem scanFindsTheFirstWinningSlot : Obligations.ScanFindsTheFirstWinningSlot := by
  intro c thresh votes wins
  have hwins (j : Fin 12) (a : Candidate) : wins j a ↔ c.Elects thresh j a := by
    rw [elects_iff, announced_eq_false_iff, votes_eq_card, Corr.behind_eq]
  simp only [hwins]
  exact ⟨fun f a => scan_eq_some_iff, scan_eq_none_iff⟩

/-- The slot the scan answers is not the last confirmed one: that one's content is announced (R188). -/
theorem lc_ne_of_scan (h : c.scan thresh = some (f, a)) : c.lc ≠ some f := by
  intro hlc
  obtain ⟨hslot, -, hnew, -⟩ := elects_iff.mp (scan_eq_some_iff.mp h).1
  exact announced_eq_false_iff.mp hnew f a hlc hslot rfl

/-! ### What a submission answers (R181, R187) -/

theorem exec_submit (h : s.port.k.length ≤ 65) : exec .submit s =
    .next ((submitCore s.port.k s.port.t s).1.returns (submitCore s.port.k s.port.t s).2) :=
  if_pos h

theorem exec_submit_of_eq (h : s.port.k.length ≤ 65) {r : State × Code} (hr : submitCore s.port.k s.port.t s = r) :
    exec .submit s = .next (r.1.returns r.2) := by
  rw [exec_submit h, hr]

theorem submitCore_of_bad_length (h : lengthOk s.cfg k.length = false) : submitCore k tm s = (s, Code.dropped) := by
  simp [submitCore, h]

/-- A candidate stored without a confirmation. -/
theorem submitCore_of_scan_none (hlen : lengthOk s.cfg k.length = true)
    (hscan : (s.inserted k tm).scan s.cfg.matchThresh.toNat = none) :
    submitCore k tm s = ({ s with corr := s.inserted k tm }, Code.stored ||| s.staleBit tm) := by
  simp [submitCore, hlen, hscan, State.staleBit]

/-- A slot the scan answers always confirms (R188). -/
theorem submitCore_of_scan_some (hlen : lengthOk s.cfg k.length = true)
    (hscan : (s.inserted k tm).scan s.cfg.matchThresh.toNat = some (f, a)) :
    submitCore k tm s = ({ s with corr := { s.inserted k tm with lc := some f }, out := s.out ++ [confirmOf a] },
      Code.confirmed ||| s.staleBit tm) := by
  simp [submitCore, hlen, hscan, lc_ne_of_scan hscan, State.staleBit, State.emit]

/-- An accepted candidate is in the ring in either case: only `lc` depends on the scan. -/
theorem submitCore_accepted (hlen : lengthOk s.cfg k.length = true) : ∃ l,
    (submitCore k tm s).1.corr = { s.inserted k tm with lc := l } ∧
    ((submitCore k tm s).2 = Code.stored ||| s.staleBit tm ∨
      (submitCore k tm s).2 = Code.confirmed ||| s.staleBit tm) := by
  cases hscan : (s.inserted k tm).scan s.cfg.matchThresh.toNat with
  | none =>
    rw [submitCore_of_scan_none hlen hscan]
    exact ⟨_, rfl, .inl rfl⟩
  | some fa =>
    rw [submitCore_of_scan_some hlen hscan]
    exact ⟨_, rfl, .inr rfl⟩

/-- A SUBMIT that completed has answered with `submit_core` (R181). -/
theorem submitCore_of_exec (h : exec .submit s = .next t) :
    t = (submitCore s.port.k s.port.t s).1.returns (submitCore s.port.k s.port.t s).2 := by
  obtain hlong | hfit := Nat.lt_or_ge Config.symCap s.port.k.length
  · rw [show exec .submit s = _ from execSubmit_refused hlong] at h
    cases h
  · rw [exec_submit hfit] at h
    cases h
    rfl

/-- Settles O39: no code of an accepted candidate is `DROPPED`. -/
theorem submitDropsExactlyBadLengths : Obligations.SubmitDropsExactlyBadLengths := by
  intro s hfit fits
  rw [exec_submit hfit]
  refine ⟨fun h => ?_, fun h => ⟨_, rfl, ?_⟩⟩
  · have hbad : lengthOk s.cfg s.port.k.length = false := Bool.eq_false_iff.mpr (mt lengthOk_iff.mp h)
    rw [submitCore_of_bad_length hbad]
    rfl
  · obtain ⟨l, -, hcode⟩ := submitCore_accepted (tm := s.port.t) (lengthOk_iff.mpr h)
    rw [State.returns_result]
    obtain hbit | hbit := staleBit_cases s s.port.t <;>
      rcases hcode with hcode | hcode <;> rw [hcode, hbit] <;> decide

/-- Settles O40: the insertion into the ring, cleared first when it is stale, and then at most a new `lc`. -/
theorem submitStoresTheCandidate : Obligations.SubmitStoresTheCandidate := by
  intro s k stale hfit hmin hmax
  obtain ⟨l, hcorr, hcode⟩ := submitCore_accepted (tm := s.port.t) (lengthOk_iff.mpr ⟨hmin, hmax⟩)
  have hstale : stale ↔ s.isStale s.port.t = true := by rw [isStale_iff, elapsed_eq]
  refine ⟨_, exec_submit hfit, ?_, ?_, fun h => ?_, fun h => ?_⟩
  · conv_lhs => rw [submitCore_frame]
    rfl
  · rw [State.returns_corr, hcorr]
    rfl
  · rw [hstale] at h
    rw [State.returns_corr, State.returns_result, hcorr, inserted_of_stale h]
    rw [staleBit_of_stale h] at hcode
    refine ⟨rfl, Corr.insert_slots _ _ s.port.t 0, fun j hj => ?_, hcode⟩
    exact (Corr.insert_slots _ _ s.port.t j).trans ((if_neg hj).trans (by simp [Corr.cleared]))
  · rw [hstale, Bool.not_eq_true] at h
    rw [State.returns_corr, State.returns_result, hcorr, inserted_of_not_stale h, Corr.invalidate_eq]
    rw [staleBit_of_not_stale h] at hcode
    refine ⟨Corr.insert_widx _ k s.port.t, ?_, fun j hj => ?_, hcode⟩
    · exact (Corr.insert_slots _ _ s.port.t s.corr.widx).trans (if_pos rfl)
    · exact (Corr.insert_slots _ _ s.port.t j).trans (if_neg hj)

/-- Settles O42: `submit_core` with the scan's answer known. -/
theorem confirmationFollowsTheScan : Obligations.ConfirmationFollowsTheScan := by
  intro s t hlen h base forgotten c bit
  have hc : c = s.inserted s.port.k s.port.t := by
    rw [State.inserted, Corr.invalidate_eq]
  rw [hc, submitCore_of_exec h]
  refine ⟨fun hscan => ?_, fun f a hscan => ⟨lc_ne_of_scan hscan, ?_⟩⟩
  · rw [submitCore_of_scan_none hlen hscan]
    exact ⟨rfl, rfl, rfl⟩
  · rw [submitCore_of_scan_some hlen hscan]
    exact ⟨rfl, rfl, rfl⟩

/-! ### Rings with copies of one candidate -/

/-- The `n` slots behind the write index hold `k` and the others nothing; a last confirmed slot is one of them. -/
structure Corr.Copies (c : Corr) (n : Nat) (k : Candidate) : Prop where
  slots : ∀ j : Fin Config.nCorr, c.slots[j.val] = if 1 ≤ c.behind j ∧ c.behind j ≤ n then some k else none
  lc_holds : ∀ l, c.lc = some l → c.slots[l.val] = some k

namespace Corr.Copies
variable {n : Nat}

theorem of_empty (hslots : ∀ j : Fin Config.nCorr, c.slots[j.val] = none) (hlc : c.lc = none) (k : Candidate) :
    c.Copies 0 k where
  slots j := by rw [hslots, if_neg (by omega)]
  lc_holds l hl := by simp [hlc] at hl

theorem cleared (c : Corr) (k : Candidate) : c.cleared.Copies 0 k :=
  of_empty (fun j => by simp [Corr.cleared]) rfl k

theorem slot_eq_some_iff (h : c.Copies n k) {j : Fin Config.nCorr} :
    c.slots[j.val] = some a ↔ (1 ≤ c.behind j ∧ c.behind j ≤ n) ∧ k = a := by
  rw [h.slots]
  simp

/-- No copy is in the slot to be written. -/
theorem invalidate_eq (h : c.Copies n k) : c.invalidate = c := by
  refine if_neg fun hlc => ?_
  obtain ⟨⟨hpos, -⟩, -⟩ := h.slot_eq_some_iff.mp (h.lc_holds _ hlc)
  simp [Corr.behind] at hpos

theorem insert (h : c.Copies n k) (hn : n ≤ 10) (tm : U32) : (c.insert k tm).Copies (n + 1) k := by
  have hslots (j : Fin Config.nCorr) : (c.insert k tm).slots[j.val] =
      if 1 ≤ (c.insert k tm).behind j ∧ (c.insert k tm).behind j ≤ n + 1 then some k else none := by
    have hj : j.val < 12 := j.isLt
    have hw : c.widx.val < 12 := c.widx.isLt
    rw [Corr.insert_slots, h.slots, ← ite_or, Corr.behind_eq, Corr.behind_eq, Corr.insert_widx]
    refine if_congr ?_ rfl rfl
    rw [Fin.ext_iff]
    omega
  refine ⟨hslots, fun l hl => ?_⟩
  rw [Corr.insert_slots, h.lc_holds l hl, ite_self]

theorem votes_eq (h : c.Copies n k) (hn : n ≤ 11) : c.votes k = n := by
  have hmem (j : Fin 12) : (∃ b, c.slots[j.val] = some b ∧ b.bits = k.bits) ↔
      c.widx - j ∈ Finset.Ioc (0 : Fin 12) ⟨n, by omega⟩ := by
    rw [Finset.mem_Ioc]
    constructor
    · rintro ⟨b, hb, -⟩
      exact (h.slot_eq_some_iff.mp hb).1
    · exact fun hj => ⟨k, h.slot_eq_some_iff.mpr ⟨hj, rfl⟩, rfl⟩
  rw [votes_eq_card, Finset.card_equiv (Equiv.subLeft c.widx) (t := Finset.Ioc (0 : Fin 12) ⟨n, by omega⟩)]
  · simp
  · simpa using hmem

/-- Fewer copies than the threshold win no vote. -/
theorem scan_of_lt (h : c.Copies n k) (hn : n ≤ 11) (hlt : n < thresh) : c.scan thresh = none := by
  refine scan_eq_none_iff.mpr fun g b he => ?_
  obtain ⟨hslot, -, -, hvotes⟩ := elects_iff.mp he
  obtain ⟨-, rfl⟩ := h.slot_eq_some_iff.mp hslot
  rw [h.votes_eq hn] at hvotes
  omega

/-- Copies of a confirmed candidate do not confirm again. -/
theorem scan_of_confirmed (h : c.Copies n k) (hlc : c.lc = some f) : c.scan thresh = none := by
  refine scan_eq_none_iff.mpr fun g b he => ?_
  obtain ⟨hslot, -, hnew, -⟩ := elects_iff.mp he
  obtain ⟨-, rfl⟩ := h.slot_eq_some_iff.mp hslot
  exact announced_eq_false_iff.mp hnew f k hlc (h.lc_holds f hlc) rfl

/-- The copy farthest behind is elected, when none is confirmed and there are enough; so the scan answers a copy. -/
theorem scan_of_le (h : c.Copies n k) (hpos : 1 ≤ n) (hn : n ≤ 11) (hlc : c.lc = none) (hle : thresh ≤ n) :
    ∃ f, c.scan thresh = some (f, k) := by
  cases hscan : c.scan thresh with
  | some fa =>
    obtain ⟨f, a⟩ := fa
    obtain ⟨-, rfl⟩ := h.slot_eq_some_iff.mp (scan_some hscan).1
    exact ⟨f, rfl⟩
  | none =>
    obtain ⟨j, hfar⟩ : ∃ j, c.behind j = n := ⟨c.widx - ⟨n, Nat.lt_succ_of_le hn⟩, by simp [Corr.behind]⟩
    have he : c.Elects thresh j k := elects_iff.mpr
      ⟨h.slot_eq_some_iff.mpr ⟨by omega, rfl⟩, by omega, by simp [Corr.announced, hlc], by rwa [h.votes_eq hn]⟩
    exact absurd he (scan_eq_none_iff.mp hscan j k)

theorem confirm (h : c.Copies n k) (hf : c.slots[f.val] = some k) : Corr.Copies { c with lc := some f } n k where
  slots := h.slots
  lc_holds l hl := by
    cases hl
    exact hf

end Corr.Copies

theorem copies_inserted {n : Nat} (h : s.corr.Copies n k) (hstale : s.isStale tm = false) (hn : n ≤ 10) :
    (s.inserted k tm).Copies (n + 1) k ∧ (s.inserted k tm).lc = s.corr.lc := by
  rw [inserted_of_not_stale hstale, h.invalidate_eq]
  exact ⟨h.insert hn tm, rfl⟩

/-- After a clear the candidate is alone in the ring, in slot 0. -/
theorem copies_of_stale (h : s.isStale tm = true) : (s.inserted k tm).Copies 1 k ∧ (s.inserted k tm).lc = none := by
  rw [inserted_of_stale h]
  exact ⟨(Corr.Copies.cleared _ k).insert (by omega) tm, rfl⟩

/-- No slot is as far as 12 behind the write index (R191). -/
theorem scan_of_twelve_le (h : 12 ≤ thresh) : c.scan thresh = none := by
  refine scan_eq_none_iff.mpr fun g b he => ?_
  obtain ⟨-, hfar, -⟩ := elects_iff.mp he
  have hlt : c.behind g < 12 := (c.widx - g).isLt
  omega

/-- Settles O44: after a clear the ring holds one copy (`copies_of_stale`). -/
theorem thresholdExtremes : Obligations.ThresholdExtremes := by
  intro s t hlen h
  rw [submitCore_of_exec h]
  refine ⟨fun h12 => ?_, fun hzero => ?_, fun hstale h2 => ?_, fun hstale h1 => ?_⟩
  · rw [submitCore_of_scan_none hlen (scan_of_twelve_le h12)]
    exact ⟨rfl, stored_staleBit_cases s s.port.t⟩
  · rw [isStale_iff, hzero]
    exact Nat.zero_le _
  · obtain ⟨hone, -⟩ := copies_of_stale (k := s.port.k) hstale
    rw [submitCore_of_scan_none hlen (hone.scan_of_lt (by omega) (by omega)), staleBit_of_stale hstale]
    exact ⟨rfl, rfl⟩
  · obtain ⟨hone, hlc⟩ := copies_of_stale (k := s.port.k) hstale
    obtain ⟨f, hscan⟩ := hone.scan_of_le (by omega) (by omega) hlc h1
    obtain rfl : f = 0 := by
      obtain ⟨hbehind, -⟩ := hone.slot_eq_some_iff.mp (scan_some hscan).1
      have hwidx : (s.inserted s.port.k s.port.t).widx.val = 1 := by
        rw [inserted_of_stale hstale]
        rfl
      have hf : f.val < 12 := f.isLt
      rw [Corr.behind_eq, hwidx] at hbehind
      exact Fin.ext (by show f.val = 0; omega)
    rw [submitCore_of_scan_some hlen hscan, staleBit_of_stale hstale]
    exact ⟨rfl, rfl, rfl⟩

/-! ### One word submitted four times (R189) -/

/-- The ports of SUBMIT, the others quiet. -/
def submitPorts (tm : U32) (k : Candidate) : Ports := { Ports.quiet with t := tm, k := k }

/-- What SUBMIT leaves when the candidate is stored and nothing confirms. -/
def State.afterStored (s : State) (k : Candidate) (tm : U32) : State :=
  State.returns { s with port := submitPorts tm k, corr := s.inserted k tm } (Code.stored ||| s.staleBit tm)

theorem afterStored_out (s : State) (k : Candidate) (tm : U32) : (s.afterStored k tm).out = s.out := rfl

/-- What SUBMIT leaves when slot `f`, a copy of the candidate, confirms. -/
def State.afterConfirmed (s : State) (k : Candidate) (tm : U32) (f : Fin Config.nCorr) : State :=
  State.returns { s with
    port := submitPorts tm k, corr := { s.inserted k tm with lc := some f }, out := s.out ++ [confirmOf k] }
    (Code.confirmed ||| s.staleBit tm)

theorem execWith_submit_stored (hfit : k.length ≤ 65) (hlen : lengthOk s.cfg k.length = true)
    (hscan : (s.inserted k tm).scan s.cfg.matchThresh.toNat = none) :
    execWith .submit (submitPorts tm k) s = .next (s.afterStored k tm) :=
  exec_submit_of_eq (s := { s with port := submitPorts tm k }) hfit (submitCore_of_scan_none hlen hscan)

theorem execWith_submit_confirmed (hfit : k.length ≤ 65) (hlen : lengthOk s.cfg k.length = true)
    (hscan : (s.inserted k tm).scan s.cfg.matchThresh.toNat = some (f, k)) :
    execWith .submit (submitPorts tm k) s = .next (s.afterConfirmed k tm f) :=
  exec_submit_of_eq (s := { s with port := submitPorts tm k }) hfit (submitCore_of_scan_some hlen hscan)

theorem not_stale_of_lt (h : elapsed tm s.corr.lastInsertMs * 1000 < s.cfg.timeoutUs.toNat) : s.isStale tm = false :=
  Bool.eq_false_iff.mpr (mt isStale_iff.mp (Nat.not_le_of_lt h))

/-- An accepted candidate in an empty ring, be it cleared first or not, is the only copy there. -/
theorem copies_inserted_empty (h : s.corr.Copies 0 k) (hlc : s.corr.lc = none) (tm : U32) :
    (s.inserted k tm).Copies 1 k ∧ (s.inserted k tm).lc = none := by
  cases hstale : s.isStale tm with
  | true => exact copies_of_stale hstale
  | false => exact hlc ▸ copies_inserted h hstale (by omega)

/-- Settles O43: after each submission the ring holds as many copies, so the third confirms (`Copies.scan_of_le`), and
for the fourth the candidate is the last confirmed one (`Copies.scan_of_confirmed`). -/
theorem threeSubmissionsConfirmOnce : Obligations.ThreeSubmissionsConfirmOnce := by
  intro s k t0 t1 t2 t3 hthresh hfit hlen hempty hlc h1 h2 h3
  have hthree : s.cfg.matchThresh.toNat = 3 := congrArg BitVec.toNat hthresh
  obtain ⟨one, hlc1⟩ := copies_inserted_empty (.of_empty hempty hlc k) hlc t0
  let s1 := s.afterStored k t0
  have fresh1 : s1.isStale t1 = false := not_stale_of_lt h1
  obtain ⟨two, hlc2⟩ := copies_inserted (s := s1) one fresh1 (by omega)
  let s2 := s1.afterStored k t1
  have fresh2 : s2.isStale t2 = false := not_stale_of_lt h2
  obtain ⟨three, hlc3⟩ := copies_inserted (s := s2) two fresh2 (by omega)
  obtain ⟨f, confirms⟩ := three.scan_of_le (by omega) (by omega) (hlc3.trans (hlc2.trans hlc1)) hthree.le
  let s3 := s2.afterConfirmed k t2 f
  have fresh3 : s3.isStale t3 = false := not_stale_of_lt h3
  obtain ⟨four, hlc4⟩ := copies_inserted (s := s3) (three.confirm (scan_some confirms).1) fresh3 (by omega)
  refine ⟨s1, s2, s3, s3.afterStored k t3,
    execWith_submit_stored hfit hlen (one.scan_of_lt (by omega) (by omega)),
    execWith_submit_stored hfit hlen (two.scan_of_lt (by omega) (hthree.trans_gt (by omega))),
    execWith_submit_confirmed hfit hlen confirms,
    execWith_submit_stored hfit hlen (four.scan_of_confirmed hlc4),
    rfl, rfl, rfl, afterStored_out s3 k t3, ?_, ?_, ?_, ?_⟩
  · exact stored_staleBit_cases s t0
  · exact congrArg (Code.stored ||| ·) (staleBit_of_not_stale fresh1)
  · exact congrArg (Code.confirmed ||| ·) (staleBit_of_not_stale fresh2)
  · exact congrArg (Code.stored ||| ·) (staleBit_of_not_stale fresh3)

end
end Sys2Proof.Machine

/-! PROOFS. The statements of 43_scheduler.md. First SCHED and TXDONE case by case (R202 to R208, R215, R219), as
equations between states, from which the statements of one operation follow. The rest of a burst (R216) is an induction
over rounds of one completion and one retrigger (`SentFrames`); the radio (R217) and the frame in flight (R208, R326,
R327) go through the ways an operation can end (`Effect`). -/

namespace Sys2Proof.Machine
section
variable {s t : State} {str : List Byte}

/-! ### An idle burst: the gate, the queue, the preparation (R202 to R205) -/

theorem exec_sched_of_idle (h : s.tx.bstate = .idle) : exec .sched s = .next (schedIdle s) := by
  simp only [exec, execSched, h]

theorem exec_sched_of_active (h : s.tx.bstate = .active) : exec .sched s = .next (schedActive s) := by
  simp only [exec, execSched, h]

theorem schedIdle_of_closed_gate (h : elapsed s.port.t s.tx.frm.lastFrameMs < s.cfg.burstDelayMs.toNat) :
    schedIdle s = s.returns Code.ok := if_pos h

theorem schedIdle_of_empty (hopen : s.cfg.burstDelayMs.toNat ≤ elapsed s.port.t s.tx.frm.lastFrameMs)
    (hempty : s.queue.count = 0) : schedIdle s = s.returns Code.txEmpty := by
  simp [schedIdle, hopen.not_gt, hempty]

/-- Settles O45: the gate holds the burst back, or lets it through to an empty queue. -/
theorem idleSchedulerWaits : Obligations.IdleSchedulerWaits := by
  intro s hidle
  dsimp only
  rw [← elapsed_eq, exec_sched_of_idle hidle]
  refine ⟨fun hclosed => ?_, fun hopen hempty => ?_⟩
  · rw [schedIdle_of_closed_gate hclosed]
    rfl
  · rw [schedIdle_of_empty hopen hempty]
    rfl

section
variable (hidle : s.tx.bstate = .idle)
  (hopen : s.cfg.burstDelayMs.toNat ≤ elapsed s.port.t s.tx.frm.lastFrameMs) (hsome : 0 < s.queue.count)
  (hhead : s.queue.slots[0] = some str)
include hidle hopen hsome hhead

theorem exec_sched_of_bad_head (hbad : prepare s.cfg str = none) :
    exec .sched s = .next (s.consumeHead.returns Code.prepFailed) := by
  rw [exec_sched_of_idle hidle]
  simp [schedIdle, hopen.not_gt, hsome.ne', hhead, hbad]

theorem exec_sched_of_good_head {ds : List U32} (hgood : prepare s.cfg str = some ds) :
    exec .sched s = .next ((s.consumeHead.startBurst ds).returns Code.burstStarted) := by
  rw [exec_sched_of_idle hidle]
  simp [schedIdle, hopen.not_gt, hsome.ne', hhead, hgood]
end

/-- Settles O46: preparation fails on a string with another symbol, and only the queue moves. -/
theorem badHeadEntryIsDiscarded : Obligations.BadHeadEntryIsDiscarded := by
  intro s str hidle hopen hsome hhead hbad
  have hprep : prepare s.cfg str = none := by rw [prepare, dutiesOf_eq_none _ _ hbad, Option.map_none]
  rw [exec_sched_of_bad_head hidle hopen hsome hhead hprep, consumeHead_eq hsome]
  rfl

/-! ### The duty values of a burst (R200, R201) -/

/-- The duty value of a symbol that is `'0'` or `'1'` (R200). -/
def symbolDuty (cfg : CfgRegs) (b : Byte) : U32 :=
  if b = 0x31#8 then (if cfg.invertLogic = 0#32 then cfg.txLong else cfg.txShort)
  else (if cfg.invertLogic = 0#32 then cfg.txShort else cfg.txLong)

theorem prepare_of_good (cfg : CfgRegs) (h : ∀ b ∈ str, b = 0x30#8 ∨ b = 0x31#8) :
    prepare cfg str = some (str.map (symbolDuty cfg) ++ [0#32]) := by
  rw [prepare, dutiesOf_eq_some cfg str h]
  rfl

/-- In the frame buffer a symbol's position holds its duty value, and every other position, the terminator's and those
of unused entries, holds 0 (R200, R201). -/
theorem getElem_dutyBuffer_prepared (cfg : CfgRegs) (str : List Byte) {j : Nat} (h : j < Config.dutyCap) :
    (dutyBuffer (str.map (symbolDuty cfg) ++ [0#32]))[j] = (str[j]?.map (symbolDuty cfg)).getD 0#32 := by
  rw [getElem_dutyBuffer, List.getD_eq_getElem?_getD]
  by_cases hj : j < str.length
  · rw [List.getElem?_append_left (by simpa using hj), List.getElem?_map]
  · have hnone : str[j]? = none := List.getElem?_eq_none (Nat.le_of_not_lt hj)
    rw [List.getElem?_append_right (by simpa using hj), hnone]
    cases j - (str.map (symbolDuty cfg)).length <;> rfl

/-- Settles O47: preparation succeeds on a string of `'0'` and `'1'`, and the burst starts with its duty values. -/
theorem burstStartsFromTheHeadEntry : Obligations.BurstStartsFromTheHeadEntry := by
  intro s str hidle hopen hsome hhead _ hgood
  refine ⟨dutyBuffer (str.map (symbolDuty s.cfg) ++ [0#32]), fun j => ?_, ?_⟩
  · rw [getElem_dutyBuffer_prepared s.cfg str j.isLt]
    cases str[j.val]? <;> rfl
  · rw [exec_sched_of_good_head hidle hopen hsome hhead (prepare_of_good s.cfg hgood), startBurst_eq,
      consumeHead_eq hsome]
    simp [State.returns, startFrame]

/-! ### An active burst: the frames (R206 to R208) -/

/-- The pulse train of the prepared frame (R206, R220). -/
def State.train (s : State) : Event := .pulseTrain (s.tx.frm.duty.toList.take s.tx.frm.len) s.tx.frm.len

theorem schedActive_in_flight (h : s.tx.fstate = .inFlight) : schedActive s = s.returns Code.ok := if_pos h

section
variable (hfree : s.tx.fstate = .idle)
include hfree

theorem schedActive_first_frame (h : s.tx.frm.frameComplete = false) :
    schedActive s = s.triggerFrame.returns Code.frameTriggered := by
  simp [schedActive, hfree, h]

theorem schedActive_next_frame (h : s.tx.frm.frameComplete = true)
    (hdelay : s.cfg.frameDelayMs.toNat ≤ elapsed s.port.t s.tx.frm.lastFrameMs) :
    schedActive s = s.nextFrame.triggerFrame.returns Code.frameTriggered := by
  simp [schedActive, hfree, h, hdelay, State.nextFrame]

theorem schedActive_waits (h : s.tx.frm.frameComplete = true)
    (hdelay : elapsed s.port.t s.tx.frm.lastFrameMs < s.cfg.frameDelayMs.toNat) :
    schedActive s = s.returns Code.ok := by
  simp [schedActive, hfree, h, hdelay.not_ge]
end

/-- Settles O48: the four cases of a SCHED in an active burst. -/
theorem activeSchedulerTriggersFrames : Obligations.ActiveSchedulerTriggersFrames := by
  intro s hactive
  dsimp only
  rw [← elapsed_eq, exec_sched_of_active hactive]
  refine ⟨fun hflying => ?_, fun hfree hfirst => ?_, fun hfree hdone hdelay => ?_, fun hfree hdone hdelay => ?_⟩
  · rw [schedActive_in_flight hflying]
    rfl
  · rw [schedActive_first_frame hfree hfirst]
    rfl
  · rw [schedActive_next_frame hfree hdone hdelay]
    rfl
  · rw [schedActive_waits hfree hdone hdelay]
    rfl

/-! ### The completion of a frame (R215, R219) -/

theorem frameInFlight_iff : s.frameInFlight = true ↔ s.tx.bstate = .active ∧ s.tx.fstate = .inFlight := by
  simp [State.frameInFlight]

theorem exec_txdone_ignored (h : ¬s.frameInFlight = true) : exec .txdone s = .next (s.returns Code.ignored) :=
  if_neg h

theorem exec_txdone_continues (h : s.frameInFlight = true)
    (hmore : s.tx.frm.framesSent.toNat ≤ s.cfg.repeatCount.toNat) :
    exec .txdone s = .next (s.completeFrame.returns Code.frameDone) := by
  simp [exec, execTxdone, h, hmore.not_gt]

theorem exec_txdone_ends (h : s.frameInFlight = true) (hlast : s.cfg.repeatCount.toNat < s.tx.frm.framesSent.toNat) :
    exec .txdone s = .next (s.completeFrame.endBurst.returns Code.burstEnded) := by
  simp [exec, execTxdone, h, hlast]

/-- TXDONE is ignored, continues the burst, or ends it. -/
theorem exec_txdone_cases (h : exec .txdone s = .next t) :
    t = s.returns Code.ignored ∨
    (s.frameInFlight = true ∧ t = s.completeFrame.returns Code.frameDone) ∨
    (s.frameInFlight = true ∧ s.cfg.repeatCount.toNat < s.tx.frm.framesSent.toNat ∧
      t = s.completeFrame.endBurst.returns Code.burstEnded) := by
  by_cases hflying : s.frameInFlight = true
  · right
    rcases Nat.lt_or_ge s.cfg.repeatCount.toNat s.tx.frm.framesSent.toNat with hlast | hmore
    · rw [exec_txdone_ends hflying hlast] at h
      cases h
      exact .inr ⟨hflying, hlast, rfl⟩
    · rw [exec_txdone_continues hflying hmore] at h
      cases h
      exact .inl ⟨hflying, rfl⟩
  · rw [exec_txdone_ignored hflying] at h
    cases h
    exact .inl rfl

/-- Settles O49: the three cases of a TXDONE. -/
theorem completionEndsOrContinuesTheBurst : Obligations.CompletionEndsOrContinuesTheBurst := by
  intro s
  dsimp only
  rw [← frameInFlight_iff]
  refine ⟨fun hnone => ?_, fun hflying hmore => ?_, fun hflying hlast => ?_⟩
  · rw [exec_txdone_ignored hnone]
    rfl
  · rw [exec_txdone_continues hflying hmore]
    rfl
  · rw [exec_txdone_ends hflying hlast, endBurst_eq]
    rfl

/-! ### The rest of a burst (R216) -/

/-- `n` further frames of the burst of `s` have gone out, and in `t` the last of them is in flight. -/
structure SentFrames (n : Nat) (s t : State) : Prop where
  cfg : t.cfg = s.cfg
  in_flight : t.frameInFlight = true
  count : t.tx.frm.framesSent.toNat = s.tx.frm.framesSent.toNat + n
  train : t.train = s.train
  out : t.out = s.out ++ List.replicate n s.train

theorem SentFrames.none (h : s.frameInFlight = true) : SentFrames 0 s s :=
  ⟨rfl, h, rfl, rfl, (List.append_nil _).symm⟩

theorem SentFrames.trans {u : State} {m n : Nat} (h : SentFrames m s t) (h' : SentFrames n t u) :
    SentFrames (m + n) s u where
  cfg := h'.cfg.trans h.cfg
  in_flight := h'.in_flight
  count := by rw [h'.count, h.count, Nat.add_assoc]
  train := h'.train.trans h.train
  out := by rw [h'.out, h.out, h.train, List.append_assoc, List.replicate_append_replicate]

/-- With the time `tm` on the ports, as `execWith` presents it to an operation that reads no other port. -/
def State.atTime (s : State) (tm : U32) : State := { s with port := { Ports.quiet with t := tm } }

/-- After the completion of the frame in flight at `tm`, the burst not over. -/
def State.completedAt (s : State) (tm : U32) : State := (s.atTime tm).completeFrame.returns Code.frameDone

/-- After one round: the frame in flight completes at `tm`, and the next one goes out the frame delay later. -/
def State.afterRound (s : State) (tm : U32) : State :=
  ((s.completedAt tm).atTime (tm + s.cfg.frameDelayMs)).nextFrame.triggerFrame.returns Code.frameTriggered

theorem afterRound_cfg (s : State) (tm : U32) : (s.afterRound tm).cfg = s.cfg := by
  simp [State.afterRound, State.completedAt, State.nextFrame, State.atTime]

theorem afterRound_tx (s : State) (tm : U32) : (s.afterRound tm).tx = { s.tx with
    fstate := .inFlight
    frm := { s.tx.frm with framesSent := s.tx.frm.framesSent + 1#32, frameComplete := false, lastFrameMs := tm } } :=
  rfl

theorem afterRound_out (s : State) (tm : U32) : (s.afterRound tm).out = s.out ++ [s.train] := rfl

theorem elapsed_add (a d : U32) : elapsed (a + d) a = d.toNat := by
  rw [elapsed, BitVec.add_comm, BitVec.add_sub_cancel]

section
variable (hflying : s.frameInFlight = true) (hmore : s.tx.frm.framesSent.toNat ≤ s.cfg.repeatCount.toNat)
include hflying

/-- Right after a completion, the frame delay has just elapsed at the SCHED of the round (R207). -/
theorem exec_sched_completedAt (tm : U32) :
    exec .sched ((s.completedAt tm).atTime (tm + s.cfg.frameDelayMs)) = .next (s.afterRound tm) := by
  have hactive : ((s.completedAt tm).atTime (tm + s.cfg.frameDelayMs)).tx.bstate = .active :=
    (frameInFlight_iff.mp hflying).1
  rw [exec_sched_of_active hactive, schedActive_next_frame rfl rfl (elapsed_add tm _).ge]
  rfl

include hmore

theorem frameRounds_cons (tm : U32) (ts : List U32) : frameRounds (tm :: ts) s = frameRounds ts (s.afterRound tm) := by
  have hdone : execWith .txdone { Ports.quiet with t := tm } s = .next (s.completedAt tm) :=
    exec_txdone_continues (s := s.atTime tm) hflying hmore
  have hsched : execWith .sched { Ports.quiet with t := tm + (s.completedAt tm).cfg.frameDelayMs } (s.completedAt tm) =
      .next (s.afterRound tm) := exec_sched_completedAt hflying tm
  simp only [frameRounds, hdone, hsched]

/-- A round sends one frame; below the largest repeat count the frame counter does not wrap. -/
theorem sentFrames_afterRound (hcount : s.cfg.repeatCount.toNat < 2 ^ 32 - 1) (tm : U32) :
    SentFrames 1 s (s.afterRound tm) where
  cfg := afterRound_cfg s tm
  in_flight := by
    rw [frameInFlight_iff, afterRound_tx]
    exact ⟨(frameInFlight_iff.mp hflying).1, rfl⟩
  count := by
    rw [afterRound_tx]
    bv_omega
  train := by rw [State.train, afterRound_tx, State.train]
  out := afterRound_out s tm
end

/-- Every round that the repeat count leaves room for sends one more frame. -/
theorem frameRounds_sends (ts : List U32) (hflying : s.frameInFlight = true)
    (hcount : s.cfg.repeatCount.toNat < 2 ^ 32 - 1)
    (hroom : ts.length ≤ s.cfg.repeatCount.toNat + 1 - s.tx.frm.framesSent.toNat) :
    ∃ t, frameRounds ts s = .next t ∧ SentFrames ts.length s t := by
  induction ts generalizing s with
  | nil => exact ⟨s, rfl, .none hflying⟩
  | cons tm ts ih =>
    rw [List.length_cons] at hroom ⊢
    have hmore : s.tx.frm.framesSent.toNat ≤ s.cfg.repeatCount.toNat := by omega
    have hone := sentFrames_afterRound hflying hmore hcount tm
    have hroom' : ts.length ≤
        (s.afterRound tm).cfg.repeatCount.toNat + 1 - (s.afterRound tm).tx.frm.framesSent.toNat := by
      rw [hone.cfg, hone.count]
      omega
    obtain ⟨t, hrun, hsent⟩ := ih hone.in_flight (by rwa [hone.cfg]) hroom'
    rw [frameRounds_cons hflying hmore, Nat.add_comm]
    exact ⟨t, hrun, hone.trans hsent⟩

/-- Settles O51, by the rounds of the burst; the frame counter then says whether the last completion ends it. -/
theorem burstSendsItsFramesAndEnds : Obligations.BurstSendsItsFramesAndEnds := by
  intro s ts done hactive hair hcount more train hroom
  obtain ⟨t, hrun, hsent⟩ := frameRounds_sends ts (frameInFlight_iff.mpr ⟨hactive, hair⟩) hcount hroom
  obtain ⟨hactive', hair'⟩ := frameInFlight_iff.mp hsent.in_flight
  have hsum := hsent.count
  refine ⟨t, ?_⟩
  by_cases hend : ts.length = more
  · have hlast : t.cfg.repeatCount.toNat < t.tx.frm.framesSent.toNat := by
      rw [hsent.cfg]
      omega
    refine ⟨_, hrun, hactive', hair', hsum, hsent.out,
      exec_txdone_ends (s := t.atTime done) hsent.in_flight hlast,
      fun hlt => absurd hend hlt.ne, fun _ => ⟨rfl, by rw [endBurst_eq]; rfl⟩⟩
  · have hmore : t.tx.frm.framesSent.toNat ≤ t.cfg.repeatCount.toNat := by
      rw [hsent.cfg]
      omega
    exact ⟨_, hrun, hactive', hair', hsum, hsent.out,
      exec_txdone_continues (s := t.atTime done) hsent.in_flight hmore,
      fun _ => ⟨rfl, hactive'⟩, fun h => absurd h hend⟩

/-! ### A frame in flight (R208, R326, R327) -/

/-- No operation but TXDONE and RST ends an active burst or takes down its frame in flight. -/
theorem Effect.keeps_burst {i : Instr} (h : Effect s i t) (hactive : s.tx.bstate = .active) (hdone : i ≠ .txdone)
    (hrst : i ≠ .rst) : t.tx.bstate = .active ∧ (s.tx.fstate = .inFlight → t.tx.fstate = .inFlight) := by
  cases h with
  | code | read | rise | fall | overflow | noBoundary | boundary | discard | badHead | enqueue | configure =>
    simp [State.stored, State.restarted, State.overflowed, State.snapshot, hactive]
  | words pm xs =>
    rw [processWindow_frame]
    simp [hactive]
  | submit =>
    rw [submitCore_frame]
    simp [hactive]
  | burst ds hidle => simp [hidle] at hactive
  | firstFrame | repeatFrame => simp [State.nextFrame, hactive]
  | frameDone | burstEnd => exact absurd rfl hdone
  | receiveMode =>
    rw [applyRxMode_eq]
    simp [hactive]
  | reset => exact absurd rfl hrst

/-- Settles O52: TXDONE alone can end a burst, and only with the frame counter above the repeat count. -/
theorem frameInFlightWaitsForCompletion : Obligations.FrameInFlightWaitsForCompletion := by
  intro i s t hactive h
  refine ⟨fun hair hdone hrst => ?_, fun hmax hrst => ?_⟩
  · obtain ⟨hactive', hair'⟩ := (exec_effect h).keeps_burst hactive hdone hrst
    exact ⟨hactive', hair' hair⟩
  · by_cases hdone : i = .txdone
    · subst hdone
      rcases exec_txdone_cases h with rfl | ⟨-, rfl⟩ | ⟨-, hlast, -⟩
      · exact hactive
      · exact hactive
      · rw [hmax] at hlast
        bv_omega
    · exact ((exec_effect h).keeps_burst hactive hdone hrst).1

/-! ### The radio (R217) -/

/-- What the step from `s` to `t` appended to the log, if it only appended, is no radio event. -/
def NoRadioEvent (s t : State) : Prop := ∃ es, t.out = s.out ++ es ∧ ∀ e ∈ es, e ≠ .radioEnable ∧ e ≠ .radioDisable

theorem NoRadioEvent.of_out_eq (h : t.out = s.out) : NoRadioEvent s t := ⟨[], by simpa using h, by simp⟩

theorem NoRadioEvent.of_append {e : Event} (h : t.out = s.out ++ [e]) (he : e ≠ .radioEnable ∧ e ≠ .radioDisable) :
    NoRadioEvent s t := ⟨[e], h, by simpa using he⟩

theorem NoRadioEvent.trans {u : State} (h : NoRadioEvent s t) (h' : NoRadioEvent t u) : NoRadioEvent s u := by
  obtain ⟨es, hout, hes⟩ := h
  obtain ⟨es', hout', hes'⟩ := h'
  refine ⟨es ++ es', by rw [hout', hout, List.append_assoc], fun e he => ?_⟩
  exact (List.mem_append.mp he).elim (hes e) (hes' e)

theorem submitCore_noRadioEvent (k : Candidate) (tm : U32) (s : State) : NoRadioEvent s (submitCore k tm s).1 := by
  rcases submitCore_cases k tm s with ⟨-, h⟩ | ⟨-, -, h⟩ | ⟨-, f, a, -, ⟨-, h⟩ | ⟨-, h⟩⟩ <;> rw [h]
  · exact .of_out_eq rfl
  · exact .of_out_eq rfl
  · exact .of_out_eq rfl
  · exact .of_append rfl ⟨nofun, nofun⟩

theorem processSample_noRadioEvent (pm : Nat) (tm : U32) (s : State) (x : Sample) :
    NoRadioEvent s (processSample pm tm s x) := by
  have hsym : NoRadioEvent s (takeSymbol pm s x).countSample := .of_out_eq (takeSymbol_out pm s x)
  unfold processSample
  dsimp only
  split
  · exact hsym.trans (submitCore_noRadioEvent _ tm _)
  · exact hsym

theorem processWindow_noRadioEvent (pm : Nat) (tm : U32) (xs : List Sample) (s : State) :
    NoRadioEvent s (xs.foldl (processSample pm tm) s) := by
  induction xs generalizing s with
  | nil => exact .of_out_eq rfl
  | cons x xs ih => exact (processSample_noRadioEvent pm tm s x).trans (ih _)

/-- The step from `s` to `t` leaves the radio alone: its bits, and no radio event. -/
structure RadioKept (s t : State) : Prop where
  events : NoRadioEvent s t
  radioOn : t.tx.radioOn = s.tx.radioOn
  rxExcl : t.tx.rxExcl = s.tx.rxExcl

theorem RadioKept.of_tx_eq (h : t.tx = s.tx) (hevents : NoRadioEvent s t) : RadioKept s t :=
  ⟨hevents, by rw [h], by rw [h]⟩

/-- What an operation does with the radio: it shuts it out at a burst start, readmits it at a burst end, or leaves it
alone and has neither to do. -/
inductive RadioUse (s : State) : Instr → State → Prop
  | shutOut {t : State} (hidle : s.tx.bstate = .idle) (hactive : t.tx.bstate = .active) (hmode : s.cfg.rxMode = 2#32)
      (hout : t.out = s.out ++ [.radioDisable]) (hexcl : t.tx.rxExcl = true) : RadioUse s .sched t
  | readmitted {t : State} (hactive : s.tx.bstate = .active) (hidle : t.tx.bstate = .idle) (hshut : s.tx.rxExcl = true)
      (hout : t.out = s.out ++ [.radioEnable]) (hexcl : t.tx.rxExcl = false) : RadioUse s .txdone t
  | kept {i : Instr} {t : State} (hstart : ¬(s.tx.bstate = .idle ∧ t.tx.bstate = .active ∧ s.cfg.rxMode = 2#32))
      (hend : ¬(s.tx.bstate = .active ∧ t.tx.bstate = .idle ∧ s.tx.rxExcl = true)) (hkept : RadioKept s t) :
      RadioUse s i t

theorem RadioUse.of_bstate_eq {i : Instr} (h : t.tx.bstate = s.tx.bstate) (hkept : RadioKept s t) :
    RadioUse s i t := by
  refine .kept ?_ ?_ hkept <;> rw [h] <;> rintro ⟨h1, h2, -⟩ <;> simp [h1] at h2

theorem RadioUse.of_tx_eq {i : Instr} (h : t.tx = s.tx) (hevents : NoRadioEvent s t) : RadioUse s i t :=
  .of_bstate_eq (by rw [h]) (.of_tx_eq h hevents)

theorem radioUse_startBurst (s : State) (ds : List U32) (hidle : s.tx.bstate = .idle) :
    RadioUse s .sched ((s.consumeHead.startBurst ds).returns Code.burstStarted) := by
  rw [startBurst_eq]
  by_cases hmode : s.cfg.rxMode = 2#32
  · exact .shutOut hidle rfl hmode (by simp [hmode]) (by simp [hmode])
  · exact .kept (fun h => hmode h.2.2) (fun h => by simp [hidle] at h)
      ⟨.of_out_eq (by simp [hmode]), by simp [hmode], by simp [hmode]⟩

theorem radioUse_endBurst (hactive : s.tx.bstate = .active) :
    RadioUse s .txdone (s.completeFrame.endBurst.returns Code.burstEnded) := by
  rw [endBurst_eq]
  by_cases hshut : s.tx.rxExcl = true
  · exact .readmitted hactive rfl hshut (by simp [hshut]) rfl
  · exact .kept (fun h => by simp [hactive] at h) (fun h => hshut h.2.2)
      ⟨.of_out_eq (by simp [hshut]), by simp [hshut], by simp [hshut]⟩

theorem exec_txdone_radioUse (h : exec .txdone s = .next t) : RadioUse s .txdone t := by
  rcases exec_txdone_cases h with rfl | ⟨-, rfl⟩ | ⟨hflying, -, rfl⟩
  · exact .of_tx_eq rfl (.of_out_eq rfl)
  · exact .of_bstate_eq rfl ⟨.of_out_eq rfl, rfl, rfl⟩
  · exact radioUse_endBurst (frameInFlight_iff.mp hflying).1

/-- Every operation but TXDONE, SET `RX_MODE` and RST uses the radio only at a burst start. -/
theorem Effect.radioUse {i : Instr} (h : Effect s i t) (hdone : i ≠ .txdone) (hset : i ≠ .setRxMode)
    (hrst : i ≠ .rst) : RadioUse s i t := by
  cases h with
  | code | read | noBoundary | fall | overflow | discard | enqueue | configure => exact .of_tx_eq rfl (.of_out_eq rfl)
  | rise | boundary | badHead =>
    exact .of_tx_eq (by simp [State.stored, State.restarted, State.snapshot])
      (.of_out_eq (by simp [State.stored, State.restarted, State.snapshot]))
  | words pm xs =>
    refine .of_tx_eq ?_ (processWindow_noRadioEvent pm s.port.t xs s)
    rw [processWindow_frame]
    rfl
  | submit =>
    refine .of_tx_eq ?_ (submitCore_noRadioEvent s.port.k s.port.t s)
    rw [submitCore_frame]
    rfl
  | burst ds hidle => exact radioUse_startBurst s ds hidle
  | firstFrame | repeatFrame => exact .of_bstate_eq rfl ⟨.of_append rfl ⟨nofun, nofun⟩, rfl, rfl⟩
  | frameDone | burstEnd => exact absurd rfl hdone
  | receiveMode => exact absurd rfl hset
  | reset => exact absurd rfl hrst

theorem exec_radioUse {i : Instr} (h : exec i s = .next t) (hset : i ≠ .setRxMode) (hrst : i ≠ .rst) :
    RadioUse s i t := by
  by_cases hdone : i = .txdone
  · subst hdone
    exact exec_txdone_radioUse h
  · exact (exec_effect h).radioUse hdone hset hrst

/-- Settles O50, by the three uses of the radio. -/
theorem radioIsSwitchedOnlyAtBurstStartAndEnd : Obligations.RadioIsSwitchedOnlyAtBurstStartAndEnd := by
  intro i s t hset hrst h
  cases exec_radioUse h hset hrst with
  | shutOut hidle hactive hmode hout hexcl => simp [hidle, hactive, hmode, hout, hexcl]
  | readmitted hactive hidle hshut hout hexcl => simp [hidle, hactive, hshut, hout, hexcl]
  | kept hstart hend hkept =>
    obtain ⟨⟨es, hout, hes⟩, hon, hexcl⟩ := hkept
    refine ⟨fun h => absurd h hstart, fun h => absurd h hend, fun _ _ => ⟨?_, hon, hexcl⟩⟩
    rw [hout, List.drop_left]
    simpa [List.filter_eq_nil_iff] using hes
end
end Sys2Proof.Machine

/-! PROOFS. The statements of 44_txqueue.md. First ENQ case by case (R226, R229, R230). Then the queue as a refinement of
a list (R231): `TxQueue.Holds` relates the five slots to the strings queued, ENQ and `consume_head` keep it, and the
contents read from the slots are that list. What a burst attempt of SCHED leaves follows, and with it both statements
about the order of the strings. -/

namespace Sys2Proof.Machine
section
variable {s : State} {q : TxQueue} {str : List Byte} {xs : List (List Byte)}

/-! ### ENQ in its three cases (R226, R229, R230) -/

theorem exec_enq_of_bad_length (hdom : s.port.s.length ≤ Config.stringCap)
    (hbad : s.port.s.length = 0 ∨ Config.symCap < s.port.s.length) :
    exec .enq s = .next (s.returns Code.configRejected) := by
  simp only [exec, execEnq, if_pos hdom, if_pos hbad]

section
variable (hpos : 1 ≤ s.port.s.length) (hfit : s.port.s.length ≤ Config.symCap)
include hpos hfit

/-- A string of a legal length is put to the queue's room alone. -/
theorem exec_enq_of_legal_length : exec .enq s =
    if s.queue.count = Config.qCap then .next (s.returns Code.queueFull)
    else .next ((s.enqueue s.port.s).returns Code.ok) := by
  have hdom : s.port.s.length ≤ Config.stringCap := hfit.trans (by decide)
  have hlegal : ¬(s.port.s.length = 0 ∨ Config.symCap < s.port.s.length) := by omega
  simp only [exec, execEnq, if_pos hdom, if_neg hlegal]

theorem exec_enq_of_full (hfull : s.queue.count = Config.qCap) :
    exec .enq s = .next (s.returns Code.queueFull) := by
  rw [exec_enq_of_legal_length hpos hfit, if_pos hfull]

theorem exec_enq_of_room (hroom : s.queue.count < Config.qCap) :
    exec .enq s = .next ((s.enqueue s.port.s).returns Code.ok) := by
  rw [exec_enq_of_legal_length hpos hfit, if_neg hroom.ne]
end

/-- Settles O53: the length, then the room, then the first empty slot, which is in bounds. -/
theorem enqueueChecksLengthThenRoom : Obligations.EnqueueChecksLengthThenRoom := by
  intro s hdom
  refine ⟨fun hbad => exec_enq_of_bad_length hdom hbad, fun hpos hfit hfull => exec_enq_of_full hpos hfit hfull,
    fun hpos hfit hroom => ?_⟩
  rw [exec_enq_of_room hpos hfit hroom, State.enqueue, setIfInBounds_eq_set _ _ hroom]
  rfl

/-! ### The queue as a list of strings (R231) -/

/-- The queue holds the strings `xs`, head first: they fill the first slots, and every slot behind them is empty. -/
structure TxQueue.Holds (q : TxQueue) (xs : List (List Byte)) : Prop where
  count : q.count = xs.length
  slots : q.slots.toList = xs.map some ++ List.replicate (Config.qCap - xs.length) none

theorem TxQueue.Holds.contents (h : q.Holds xs) : q.contents = xs := by
  have htake : q.slots.toList.take q.count = xs.map some := by
    rw [h.slots, h.count, List.take_left' (List.length_map some)]
  simp [TxQueue.contents, htake]

theorem TxQueue.Holds.length_le (h : q.Holds xs) : xs.length ≤ Config.qCap := by
  have hlen := congrArg List.length h.slots
  rw [Vector.length_toList, List.length_append, List.length_map] at hlen
  omega

theorem TxQueue.Wf.take_slots (h : q.Wf) : q.slots.toList.take q.count = q.contents.map some := by
  rw [TxQueue.contents, List.map_filterMap_some_eq_filter_map_isSome, List.map_id, List.filter_eq_self.mpr]
  intro o ho
  obtain ⟨j, hj, rfl⟩ := List.mem_take_iff_getElem.mp ho
  rw [Vector.length_toList, Nat.lt_min] at hj
  simpa using (h.occupied_iff ⟨j, hj.2⟩).mpr hj.1

theorem TxQueue.Wf.drop_slots (h : q.Wf) :
    q.slots.toList.drop q.count = List.replicate (Config.qCap - q.count) none := by
  refine List.eq_replicate_iff.mpr ⟨by simp, fun o ho => ?_⟩
  obtain ⟨j, hj, rfl⟩ := List.mem_drop_iff_getElem.mp ho
  rw [Vector.length_toList] at hj
  simpa using mt (h.occupied_iff ⟨q.count + j, by omega⟩).mp (by simp)

theorem TxQueue.Wf.length_contents (h : q.Wf) : q.contents.length = q.count := by
  have hlen := congrArg List.length h.take_slots
  rw [List.length_take, Vector.length_toList, List.length_map, min_eq_left h.count_le] at hlen
  exact hlen.symm

/-- A well-formed queue holds its contents: the slots below the count are occupied, and the others are empty. -/
theorem TxQueue.Wf.holds (h : q.Wf) : q.Holds q.contents where
  count := h.length_contents.symm
  slots := by rw [h.length_contents, ← h.take_slots, ← h.drop_slots, List.take_append_drop]

/-- ENQ appends its string: it writes the first empty slot (R226). -/
theorem TxQueue.Holds.enqueue (h : s.queue.Holds xs) (hroom : xs.length < Config.qCap) :
    (s.enqueue str).queue.Holds (xs ++ [str]) where
  count := by simp [h.count]
  slots := by
    obtain ⟨n, hn⟩ : ∃ n, Config.qCap - xs.length = n + 1 := ⟨Config.qCap - xs.length - 1, by omega⟩
    have hrest : Config.qCap - (xs ++ [str]).length = n := by
      rw [List.length_append, List.length_singleton]
      omega
    rw [State.enqueue_queue, Vector.toList_setIfInBounds, h.slots, h.count, hn, hrest]
    simp [List.replicate_succ]

/-- The slots after the head is consumed, as a list: each moved down, and the last empty (R227). -/
theorem toList_shifted (v : Vector (Option (List Byte)) Config.qCap) :
    (#v[v[1], v[2], v[3], v[4], none]).toList = v.toList.tail ++ [none] :=
  match v with
  | ⟨⟨[_, _, _, _, _]⟩, _⟩ => rfl

/-- `consume_head` removes the head (R227). -/
theorem TxQueue.Holds.consumeHead (h : s.queue.Holds (str :: xs)) : s.consumeHead.queue.Holds xs := by
  have hcount : s.queue.count = xs.length + 1 := h.count
  have hcap : xs.length + 1 ≤ Config.qCap := h.length_le
  rw [consumeHead_eq (by omega)]
  refine ⟨by simp [hcount], ?_⟩
  have hrest : Config.qCap - xs.length = Config.qCap - (str :: xs).length + 1 := by
    rw [List.length_cons]
    omega
  rw [toList_shifted, h.slots, hrest, List.replicate_succ']
  simp

/-- The first slot of a queue that is not empty holds its head. -/
theorem TxQueue.Holds.head (h : q.Holds (str :: xs)) : q.slots[0] = some str := by
  rw [← Vector.getElem_toList (by simp)]
  simp [h.slots]

/-! ### A burst attempt (R201, R227) -/

/-- With the gate open and a string queued, SCHED consumes the head, whether its preparation succeeds or fails. -/
theorem exec_sched_attempt (h : s.queue.Holds (str :: xs)) (hidle : s.tx.bstate = .idle)
    (hopen : s.cfg.burstDelayMs.toNat ≤ elapsed s.port.t s.tx.frm.lastFrameMs) :
    ∃ t, exec .sched s = .next t ∧ t.queue.Holds xs ∧ (t.result = Code.burstStarted ∨ t.result = Code.prepFailed) := by
  have hsome : 0 < s.queue.count := by simp [h.count]
  cases hprep : prepare s.cfg str with
  | none => exact ⟨_, exec_sched_of_bad_head hidle hopen hsome h.head hprep, h.consumeHead, .inr rfl⟩
  | some ds =>
    exact ⟨_, exec_sched_of_good_head hidle hopen hsome h.head hprep, by simpa using h.consumeHead, .inl rfl⟩

/-- Settles O54: ENQ appends to the list the queue holds, an attempt removes its head, and the remaining operations
do not write the queue (R78). -/
theorem queueIsFirstInFirstOut : Obligations.QueueIsFirstInFirstOut := by
  intro s hinv
  have hholds := hinv.queue.holds
  refine ⟨hinv.queue.length_contents, fun hpos hfit hroom => ?_, fun hidle hopen hsome => ?_,
    fun i t henq hsched hrst h => ?_⟩
  · exact ⟨_, exec_enq_of_room hpos hfit hroom, (hholds.enqueue (hholds.count ▸ hroom)).contents⟩
  · obtain ⟨x, xs, hxs⟩ := List.exists_cons_of_length_pos (hholds.count ▸ hsome)
    rw [hxs] at hholds ⊢
    obtain ⟨t, hrun, hrest, -⟩ := exec_sched_attempt hholds hidle hopen
    exact ⟨t, hrun, hrest.contents⟩
  · obtain ⟨-, -, -, -, -, hwriters, -⟩ := eachPartHasItsWriters i s t h
    have hkept : t.queue = s.queue := by
      by_contra hne
      simpa [henq, hsched, hrst] using hwriters hne
    rw [hkept]

/-! ### Filling the queue (R228) -/

/-- With the string `str` on the ports, as `execWith` presents it to ENQ. -/
def State.atString (s : State) (str : List Byte) : State := { s with port := { Ports.quiet with s := str } }

/-- After an accepted ENQ of `str`. -/
def State.enqueued (s : State) (str : List Byte) : State := ((s.atString str).enqueue str).returns Code.ok

theorem execWith_enq_accepts (hlen : 1 ≤ str.length ∧ str.length ≤ Config.symCap) (h : s.queue.Holds xs)
    (hroom : xs.length < Config.qCap) :
    execWith .enq { Ports.quiet with s := str } s = .next (s.enqueued str) ∧
      (s.enqueued str).queue.Holds (xs ++ [str]) :=
  ⟨exec_enq_of_room (s := s.atString str) hlen.1 hlen.2 (h.count ▸ hroom), h.enqueue (s := s.atString str) hroom⟩

/-- A full queue turns a legal string away and keeps what it holds (R230). -/
theorem execWith_enq_full (hlen : 1 ≤ str.length ∧ str.length ≤ Config.symCap) (h : s.queue.Holds xs)
    (hfull : xs.length = Config.qCap) :
    execWith .enq { Ports.quiet with s := str } s = .next ((s.atString str).returns Code.queueFull) ∧
      ((s.atString str).returns Code.queueFull).queue.Holds xs :=
  ⟨exec_enq_of_full (s := s.atString str) hlen.1 hlen.2 (h.count.trans hfull), h⟩

theorem execWith_sched_attempt {tm : U32} (h : s.queue.Holds (str :: xs)) (hidle : s.tx.bstate = .idle)
    (hopen : s.cfg.burstDelayMs.toNat ≤ elapsed tm s.tx.frm.lastFrameMs) :
    ∃ t, execWith .sched { Ports.quiet with t := tm } s = .next t ∧ t.queue.Holds xs ∧
      (t.result = Code.burstStarted ∨ t.result = Code.prepFailed) :=
  exec_sched_attempt (s := s.atTime tm) h hidle hopen

/-- Settles O55: each accepted ENQ is the next state `enqueued`, and the strings held say which ENQ finds room. -/
theorem sixthEnqueueWaitsForOneAttempt : Obligations.SixthEnqueueWaitsForOneAttempt := by
  intro s a b c d e f t hinv hempty hidle hopen hlen
  simp only [List.forall_mem_cons] at hlen
  obtain ⟨ha, hb, hc, hd, he, hf, -⟩ := hlen
  have h0 : s.queue.Holds [] := by
    have hnil : s.queue.contents = [] := by simp [TxQueue.contents, hempty]
    exact hnil ▸ hinv.queue.holds
  obtain ⟨run1, h1⟩ := execWith_enq_accepts ha h0 (by decide)
  obtain ⟨run2, h2⟩ := execWith_enq_accepts hb h1 (by simp)
  obtain ⟨run3, h3⟩ := execWith_enq_accepts hc h2 (by simp [Config.qCap])
  obtain ⟨run4, h4⟩ := execWith_enq_accepts hd h3 (by simp [Config.qCap])
  obtain ⟨run5, h5⟩ := execWith_enq_accepts he h4 (by simp [Config.qCap])
  obtain ⟨run6, h6⟩ := execWith_enq_full hf h5 rfl
  obtain ⟨s7, run7, h7, hcode⟩ := execWith_sched_attempt h6 hidle hopen
  obtain ⟨run8, h8⟩ := execWith_enq_accepts hf h7 (by simp [Config.qCap])
  exact ⟨_, _, _, _, _, _, s7, _, run1, rfl, run2, rfl, run3, rfl, run4, rfl, run5, rfl, run6, rfl, run7, h7.count,
    hcode, run8, rfl, h8.contents⟩
end
end Sys2Proof.Machine

/-! PROOFS. The statements of 45_config.md. First the register file (R83): reading after a replacement is
`Function.update`. Then a SET and a GET by register instead of by operation (`exec_setInstr`, `exec_getInstr`,
`exec_viewInstr`), a SET in its two cases, accepted or rejected (R237), and the orderings of the registers (R263), which
the invariant holds. -/

namespace Sys2Proof.Machine
section
variable {s : State} {r : CfgReg}

/-! ### The register file (R33, R83) -/

/-- Replacing a register changes what is read from that register and from no other. -/
theorem CfgRegs.get_set (c : CfgRegs) (r : CfgReg) (v : U32) : (c.set r v).get = Function.update c.get r v := by
  funext r'
  cases r <;> cases r' <;> rfl

/-! ### A SET accepted or rejected (R237) -/

theorem accepts_iff {v : U32} : s.accepts r v = true ↔ s.cfg.legal r v = true ∧ s.params.allows r v = true := by
  rw [State.accepts, Bool.and_eq_true]

theorem setPlain_of_accepts (h : s.accepts r s.port.v = true) :
    setPlain r s = .next ((s.setCfg r s.port.v).returns Code.ok) := if_pos h

theorem setPlain_of_not_accepts (h : ¬s.accepts r s.port.v = true) :
    setPlain r s = .next (s.returns Code.configRejected) := if_neg h

/-- Every SET but that of `RX_MODE` has no effect beyond its register. -/
theorem exec_setInstr (hr : r ≠ .rxMode) (s : State) : exec (setInstr r) s = setPlain r s := by
  cases r with
  | rxMode => exact absurd rfl hr
  | timeoutUs | matchThresh | minWordLen | maxWordLen | maxBitPeriod | txShort | txLong | frameDelayMs | burstDelayMs
  | repeatCount | invertLogic | ignoreSync => rfl

/-- Settles O56: the SET is `setPlain`, and the register file it leaves reads as an update of the one before. -/
theorem setReplacesItsRegisterOrRejects : Obligations.SetReplacesItsRegisterOrRejects := by
  intro s r hr v
  rw [exec_setInstr hr, ← accepts_iff]
  refine ⟨fun hacc => ⟨s.cfg.set r v, ?_, fun r' hne => ?_, setPlain_of_accepts hacc⟩, setPlain_of_not_accepts⟩
  · rw [CfgRegs.get_set, Function.update_self]
  · rw [CfgRegs.get_set, Function.update_of_ne hne]

/-! ### The receive mode (R253) -/

theorem legal_rxMode_iff {c : CfgRegs} {v : U32} : c.legal .rxMode v = true ↔ v = 0#32 ∨ v = 1#32 ∨ v = 2#32 := by
  rw [← toNat_le_two]
  exact decide_eq_true_iff

theorem exec_setRxMode_of_accepts (h : s.accepts .rxMode s.port.v = true) :
    exec .setRxMode s = .next ((s.setCfg .rxMode s.port.v).applyRxMode.returns Code.ok) := if_pos h

theorem exec_setRxMode_of_not_accepts (h : ¬s.accepts .rxMode s.port.v = true) :
    exec .setRxMode s = .next (s.returns Code.configRejected) := if_neg h

/-- Settles O58: an accepted mode is one of three, and `applyRxMode_eq` says what each does to the radio. -/
theorem receiveModeActsAtOnce : Obligations.ReceiveModeActsAtOnce := by
  intro s v off
  refine ⟨fun hmode hallowed => ?_, fun hno => ?_⟩
  · rw [exec_setRxMode_of_accepts (accepts_iff.mpr ⟨legal_rxMode_iff.mpr hmode, hallowed⟩), applyRxMode_eq]
    have hoff : off ↔ v = RxMode.off ∨ v ≠ RxMode.alwaysOn ∧ s.tx.txActive = true := by
      rcases hmode with h | h | h <;> simp [off, h, RxMode.off, RxMode.alwaysOn]
    have hexcl : v = 2#32 ∧ s.tx.txActive = true ↔
        v ≠ RxMode.off ∧ v ≠ RxMode.alwaysOn ∧ s.tx.txActive = true := by
      rcases hmode with h | h | h <;> simp [h, RxMode.off, RxMode.alwaysOn]
    simp only [hoff, hexcl]
    rfl
  · exact exec_setRxMode_of_not_accepts fun hacc =>
      hno ((accepts_iff.mp hacc).imp_left legal_rxMode_iff.mp)

/-! ### GET (R236) -/

theorem exec_getInstr (r : CfgReg) (s : State) : exec (getInstr r) s = .next (s.drives (s.cfg.get r)) := by
  cases r <;> rfl

theorem exec_viewInstr (r : ViewReg) (s : State) : exec (viewInstr r) s = .next (s.drives (s.view r)) := by
  cases r <;> rfl

/-- Settles O59: a GET drives its register, and `State.view` gives the field that a read-only register names. -/
theorem getReadsItsRegister : Obligations.GetReadsItsRegister := fun s =>
  ⟨fun r => exec_getInstr r s, exec_viewInstr .status s, exec_viewInstr .qcount s, exec_viewInstr .storIdx s,
    exec_viewInstr .procIdx s, exec_viewInstr .tgtIdx s, exec_viewInstr .corrWidx s, exec_viewInstr .framesSent s,
    exec_viewInstr .ovfCount s⟩

/-! ### The orderings (R263) -/

/-- Settles O18: the orderings are part of the invariant, which every reachable state meets. -/
theorem reachableStatesKeepTheOrderings : Obligations.ReachableStatesKeepTheOrderings := by
  intro p s hp hreach
  obtain ⟨-, hinv⟩ := reachable_inv hp hreach
  obtain ⟨hlen, hduty, -⟩ := (CfgRegs.wellFormed_iff s.cfg).mp hinv.cfg
  exact ⟨hlen, hduty⟩
end
end Sys2Proof.Machine

/-! PROOFS. The statements of 60_exceptions.md. First the result codes (R281), operation by operation. Then the four
fields that no operation reads: `State.under` puts other values in them, and every operation is shown once to answer the
same under them (`exec_under`), the fault bits added to those it raises itself (R284). Both statements about two runs
follow (R283, R284). -/

namespace Sys2Proof.Machine
section
variable {s t : State}

/-! ### The result codes (R281, R282) -/

/-- If the operation completes, its result code is one of `cs`. -/
def Answers (cs : List Code) : Outcome → Prop
  | .next t => t.result ∈ cs
  | .fault _ | .refused _ => True

/-- An operation that tests its operands answers the codes of both branches. -/
theorem Answers.ite {cs : List Code} {c : Prop} [Decidable c] {a b : Outcome} (ha : Answers cs a)
    (hb : Answers cs b) : Answers cs (if c then a else b) := by
  split
  · exact ha
  · exact hb

theorem Answers.returns {cs : List Code} {c : Code} (hc : c ∈ cs) (s : State) : Answers cs (.next (s.returns c)) := hc

theorem Answers.drives (s : State) (v : U32) : Answers [Code.ok] (.next (s.drives v)) := List.mem_singleton_self _

theorem execBchk_answers (s : State) : Answers [Code.ok] (execBchk s) :=
  .ite (.ite (.returns (by decide) _) (.returns (by decide) _)) trivial

theorem execEnq_answers (s : State) : Answers (returnable .enq) (execEnq s) :=
  .ite (.ite (.returns (by decide) _) (.ite (.returns (by decide) _) (.returns (by decide) _))) trivial

theorem execTxdone_answers (s : State) : Answers (returnable .txdone) (execTxdone s) :=
  .ite (.ite (.returns (by decide) _) (.returns (by decide) _)) (.returns (by decide) _)

theorem execBuild_answers (s : State) : Answers [Code.ok] (execBuild s) :=
  .ite (.returns (by decide) _) (.returns (by decide) _)

theorem setPlain_answers (r : CfgReg) (s : State) : Answers [Code.ok, Code.configRejected] (setPlain r s) :=
  .ite (.returns (by decide) _) (.returns (by decide) _)

theorem execSetRxMode_answers (s : State) : Answers (returnable .setRxMode) (execSetRxMode s) :=
  .ite (.returns (by decide) _) (.returns (by decide) _)

theorem schedIdle_answers (s : State) : Answers (returnable .sched) (.next (schedIdle s)) := by
  unfold schedIdle
  split
  · exact .returns (by decide) _
  · split
    · exact .returns (by decide) _
    · split
      · exact .returns (by decide) _
      · exact .returns (by decide) _

theorem schedActive_answers (s : State) : Answers (returnable .sched) (.next (schedActive s)) := by
  unfold schedActive
  split_ifs <;> exact .returns (by decide) _

theorem execSched_answers (s : State) : Answers (returnable .sched) (execSched s) := by
  unfold execSched
  split
  · exact schedIdle_answers s
  · exact schedActive_answers s

/-- `STALE_RESET` joins `STORED` and `CONFIRMED`, and never `DROPPED` (R282). -/
theorem submitCore_code (k : Candidate) (tm : U32) (s : State) : (submitCore k tm s).2 ∈ returnable .submit := by
  cases hlen : lengthOk s.cfg k.length with
  | false =>
    rw [submitCore_of_bad_length hlen]
    exact List.mem_cons_self
  | true =>
    obtain ⟨-, -, hcode⟩ := submitCore_accepted (tm := tm) hlen
    obtain hbit | hbit := staleBit_cases s tm <;> rcases hcode with hcode | hcode <;> rw [hcode, hbit] <;> decide

theorem execSubmit_answers (s : State) : Answers (returnable .submit) (execSubmit s) :=
  .ite (.returns (submitCore_code _ _ s) _) trivial

/-- Every operation answers with its own rows of the table alone. -/
theorem exec_answers (i : Instr) (s : State) : Answers (returnable i) (exec i s) := by
  cases i with
  | rise | fall => exact .ite (.returns (by decide) _) trivial
  | ovf | rst => exact .returns (by decide) _
  | bchk => exact execBchk_answers s
  | build => exact execBuild_answers s
  | submit => exact execSubmit_answers s
  | sched => exact execSched_answers s
  | txdone => exact execTxdone_answers s
  | enq => exact execEnq_answers s
  | setRxMode => exact execSetRxMode_answers s
  | setTimeoutUs | setMatchThresh | setMinWordLen | setMaxWordLen | setMaxBitPeriod | setTxShort | setTxLong
  | setFrameDelayMs | setBurstDelayMs | setRepeatCount | setInvertLogic | setIgnoreSync =>
    exact setPlain_answers _ s
  | getTimeoutUs | getMatchThresh | getMinWordLen | getMaxWordLen | getMaxBitPeriod | getTxShort | getTxLong
  | getFrameDelayMs | getBurstDelayMs | getRepeatCount | getInvertLogic | getIgnoreSync | getRxMode
  | getStatus | getQcount | getStorIdx | getProcIdx | getTgtIdx | getCorrWidx | getFramesSent | getOvfCount =>
    exact .drives s _

/-- Settles O13: `exec_answers`, for an operation that completed. -/
theorem resultCodesByOperation : Obligations.ResultCodesByOperation := by
  intro i s t h
  have hans : Answers (returnable i) (.next t) := h ▸ exec_answers i s
  exact hans

/-! ### The fields that no operation reads (R73, R283, R284) -/

/-- The fault bits set in `f` or in `g`. -/
def FaultBits.or (f g : FaultBits) : FaultBits where
  ovr := f.ovr || g.ovr
  div0 := f.div0 || g.div0
  wovf := f.wovf || g.wovf

@[simp] theorem FaultBits.or_reset (f : FaultBits) : f.or .reset = f := by
  simp [FaultBits.or, FaultBits.reset]

/-- Values for what the block keeps or is given and no operation depends on: the fault bits, the operations still to
come, and the two outputs of the operation before. -/
structure Unread where
  faults : FaultBits
  inbox : List Issue
  result : Code
  q : Option U32

/-- The state with other unread values, the fault bits added to its own. -/
def State.under (s : State) (x : Unread) : State :=
  { s with faults := s.faults.or x.faults, inbox := x.inbox, result := x.result, q := x.q }

/-- What an operation leaves of the unread values it ran under: all but the outputs, which it writes. -/
def State.after (t : State) (x : Unread) : State := { t with faults := t.faults.or x.faults, inbox := x.inbox }

/-- What an operation answers under unread values, from its answer without them. -/
def answerUnder (x : Unread) : Outcome → Outcome
  | .next t => .next (t.after x)
  | .fault r => .fault r
  | .refused r => .refused r

theorem answerUnder_eq_next_iff {x : Unread} {o : Outcome} :
    answerUnder x o = .next t ↔ ∃ u, o = .next u ∧ t = u.after x := by
  cases o <;> simp [answerUnder, eq_comm]
end

section
variable (s : State) (x : Unread)

/-! ### Each operation on the state under unread values -/

theorem under_ite (c : Prop) [Decidable c] (a b : State) :
    (if c then a else b).under x = if c then a.under x else b.under x :=
  apply_ite (State.under · x) c a b

/-- A bit is raised whether or not it was set before (R284). -/
theorem under_raise (f : FaultBit) : (s.under x).raise f = (s.raise f).under x := by
  cases f <;> rfl

theorem under_afterExt (c ref : Nat) : (s.under x).afterExt c ref = (s.afterExt c ref).under x := by
  unfold State.afterExt
  rw [under_ite]
  rfl

theorem under_storePeriod (p : Nat) : (s.under x).storePeriod p = (s.storePeriod p).under x := rfl

theorem under_advanceStor : (s.under x).advanceStor = s.advanceStor.under x := by
  unfold State.advanceStor
  rw [under_raise, under_ite]
  rfl

theorem under_advanceIfWidth : (s.under x).advanceIfWidth = s.advanceIfWidth.under x := by
  unfold State.advanceIfWidth
  rw [under_advanceStor, under_ite]
  rfl

theorem under_atBoundary : (s.under x).atBoundary = s.atBoundary.under x := by
  unfold State.atBoundary
  rw [under_afterExt, under_storePeriod, under_advanceIfWidth]
  rfl

theorem under_consumeHead : (s.under x).consumeHead = s.consumeHead.under x := by
  unfold State.consumeHead
  rw [under_ite]
  rfl

theorem under_startBurst (ds : List U32) : (s.under x).startBurst ds = (s.startBurst ds).under x := by
  rw [startBurst_eq, startBurst_eq]
  rfl

theorem under_completeFrame : (s.under x).completeFrame = s.completeFrame.under x := rfl

theorem under_endBurst : (s.under x).endBurst = s.endBurst.under x := by
  rw [endBurst_eq, endBurst_eq]
  rfl

theorem under_setCfg (r : CfgReg) (v : U32) : (s.under x).setCfg r v = (s.setCfg r v).under x := rfl

theorem under_applyRxMode : (s.under x).applyRxMode = s.applyRxMode.under x := by
  rw [applyRxMode_eq, applyRxMode_eq]
  rfl

theorem under_submitCore (k : Candidate) (tm : U32) :
    submitCore k tm (s.under x) = ((submitCore k tm s).1.under x, (submitCore k tm s).2) := by
  cases hlen : lengthOk s.cfg k.length with
  | false => rw [submitCore_of_bad_length hlen, submitCore_of_bad_length (s := s.under x) hlen]
  | true =>
    cases hscan : (s.inserted k tm).scan s.cfg.matchThresh.toNat with
    | none =>
      rw [submitCore_of_scan_none hlen hscan, submitCore_of_scan_none (s := s.under x) hlen hscan]
      rfl
    | some fa =>
      rw [submitCore_of_scan_some hlen hscan, submitCore_of_scan_some (s := s.under x) hlen hscan]
      rfl

theorem under_finalize (tm : U32) : finalize tm (s.under x) = (finalize tm s).under x := by
  unfold finalize
  rw [under_submitCore]
  rfl

theorem under_takeSymbol (pm : Nat) (a : Sample) : takeSymbol pm (s.under x) a = (takeSymbol pm s a).under x := by
  unfold takeSymbol
  rw [under_raise, under_ite, under_ite]
  rfl

theorem under_processSample (pm : Nat) (tm : U32) (a : Sample) :
    processSample pm tm (s.under x) a = (processSample pm tm s a).under x := by
  have hcount : (takeSymbol pm (s.under x) a).countSample = (takeSymbol pm s a).countSample.under x := by
    rw [under_takeSymbol]
    rfl
  unfold processSample
  dsimp only
  rw [hcount, under_finalize, under_ite]
  rfl

theorem under_processWindow (pm : Nat) (tm : U32) (as : List Sample) :
    as.foldl (processSample pm tm) (s.under x) = (as.foldl (processSample pm tm) s).under x := by
  induction as generalizing s with
  | nil => rfl
  | cons a as ih => rw [List.foldl_cons, List.foldl_cons, under_processSample, ih]

theorem under_processed : (s.under x).processed = s.processed.under x := under_processWindow s x _ _ _

/-! ### Each operation under unread values -/

theorem answerUnder_ite (c : Prop) [Decidable c] (a b : Outcome) :
    answerUnder x (if c then a else b) = if c then answerUnder x a else answerUnder x b :=
  apply_ite (answerUnder x) c a b

theorem after_ite (c : Prop) [Decidable c] (a b : State) :
    (if c then a else b).after x = if c then a.after x else b.after x :=
  apply_ite (State.after · x) c a b

theorem execRise_under (hc : s.port.c < s.params.timerMod) :
    execRise (s.under x) = answerUnder x (execRise s) := by
  refine (execRise_eq (s := s.under x) hc).trans ?_
  rw [execRise_eq hc, under_afterExt, under_storePeriod, under_advanceIfWidth]
  rfl

theorem execFall_under (hc : s.port.c < s.params.timerMod) :
    execFall (s.under x) = answerUnder x (execFall s) := by
  refine (fallStoresWidth (s.under x) hc).trans ?_
  rw [show execFall s = _ from fallStoresWidth s hc]
  rfl

theorem execBchk_under (hc : s.port.c < s.params.timerMod) :
    execBchk (s.under x) = answerUnder x (execBchk s) := by
  by_cases hf : s.boundaryFires
  · rw [execBchk_fires hc hf, execBchk_fires (s := s.under x) hc hf, under_atBoundary]
    rfl
  · rw [execBchk_waits hc hf, execBchk_waits (s := s.under x) hc hf, under_afterExt]
    rfl

/-- A capture under unread values; out of its domain it is refused under any (R103). -/
theorem exec_capture_under {i : Instr} (hi : i = .rise ∨ i = .fall ∨ i = .bchk) :
    exec i (s.under x) = answerUnder x (exec i s) := by
  obtain hc | hc := Nat.lt_or_ge s.port.c s.params.timerMod
  · rcases hi with rfl | rfl | rfl
    · exact execRise_under s x hc
    · exact execFall_under s x hc
    · exact execBchk_under s x hc
  · rw [exec_capture_refused hi hc, exec_capture_refused (s := s.under x) hi hc]
    rfl

theorem execOvf_under : execOvf (s.under x) = answerUnder x (execOvf s) := by
  rw [execOvf_eq, execOvf_eq]
  rfl

theorem execBuild_under : execBuild (s.under x) = answerUnder x (execBuild s) := by
  by_cases he : s.cap.procIdx = s.cap.tgtIdx
  · rw [execBuild_of_empty he]
    exact execBuild_of_empty (s := s.under x) he
  · rw [execBuild_of_nonempty he, execBuild_of_nonempty (s := s.under x) he, under_raise, under_processed, ← under_ite]
    rfl

theorem execSubmit_under : execSubmit (s.under x) = answerUnder x (execSubmit s) := by
  unfold execSubmit
  rw [under_submitCore, answerUnder_ite]
  rfl

theorem schedIdle_under : schedIdle (s.under x) = (schedIdle s).after x := by
  have hhead : prepare (s.under x).cfg (((s.under x).queue.slots[0]).getD []) =
      prepare s.cfg ((s.queue.slots[0]).getD []) := rfl
  unfold schedIdle
  rw [under_consumeHead, after_ite, after_ite, hhead]
  cases prepare s.cfg ((s.queue.slots[0]).getD []) with
  | none => rfl
  | some ds =>
    dsimp only
    rw [under_startBurst]
    rfl

theorem schedActive_under : schedActive (s.under x) = (schedActive s).after x := by
  unfold schedActive
  rw [after_ite, after_ite, after_ite]
  rfl

theorem exec_sched_under : exec .sched (s.under x) = answerUnder x (exec .sched s) := by
  cases hb : s.tx.bstate with
  | idle =>
    rw [exec_sched_of_idle hb, exec_sched_of_idle (s := s.under x) hb, schedIdle_under]
    rfl
  | active =>
    rw [exec_sched_of_active hb, exec_sched_of_active (s := s.under x) hb, schedActive_under]
    rfl

theorem execEnq_under : execEnq (s.under x) = answerUnder x (execEnq s) := by
  unfold execEnq
  dsimp only
  rw [answerUnder_ite, answerUnder_ite, answerUnder_ite]
  rfl

theorem execTxdone_under : execTxdone (s.under x) = answerUnder x (execTxdone s) := by
  unfold execTxdone
  dsimp only
  rw [under_completeFrame, under_endBurst, answerUnder_ite, answerUnder_ite]
  rfl

theorem setPlain_under (r : CfgReg) : setPlain r (s.under x) = answerUnder x (setPlain r s) := by
  unfold setPlain
  rw [answerUnder_ite]
  rfl

theorem execSetRxMode_under : execSetRxMode (s.under x) = answerUnder x (execSetRxMode s) := by
  unfold execSetRxMode
  rw [under_setCfg, under_applyRxMode, answerUnder_ite]
  rfl

theorem exec_rst_under (hx : x.faults = FaultBits.reset) : exec .rst (s.under x) = answerUnder x (exec .rst s) := by
  rw [exec_rst, exec_rst]
  simp only [answerUnder, State.after, hx, FaultBits.or_reset]
  rfl

/-- Whatever an operation answers, it answers under any unread values, the fault bits added to those it raises; but RST
clears the fault bits, and GET.STATUS reads them. -/
theorem exec_under {i : Instr} (hi : i = .rst ∨ i = .getStatus → x.faults = FaultBits.reset) :
    exec i (s.under x) = answerUnder x (exec i s) := by
  cases i with
  | rise => exact exec_capture_under s x (.inl rfl)
  | fall => exact exec_capture_under s x (.inr (.inl rfl))
  | ovf => exact execOvf_under s x
  | txdone => exact execTxdone_under s x
  | bchk => exact exec_capture_under s x (.inr (.inr rfl))
  | build => exact execBuild_under s x
  | submit => exact execSubmit_under s x
  | sched => exact exec_sched_under s x
  | enq => exact execEnq_under s x
  | rst => exact exec_rst_under s x (hi (.inl rfl))
  | getStatus =>
    have hread : (s.under x).status = s.status := by
      simp [State.status, State.under, State.frameInFlight, hi (.inr rfl)]
    exact congrArg (fun v => Host.Outcome.next ((s.under x).drives v)) hread
  | setRxMode => exact execSetRxMode_under s x
  | setTimeoutUs | setMatchThresh | setMinWordLen | setMaxWordLen | setMaxBitPeriod | setTxShort | setTxLong
  | setFrameDelayMs | setBurstDelayMs | setRepeatCount | setInvertLogic | setIgnoreSync =>
    exact setPlain_under s x _
  | getTimeoutUs | getMatchThresh | getMinWordLen | getMaxWordLen | getMaxBitPeriod | getTxShort | getTxLong
  | getFrameDelayMs | getBurstDelayMs | getRepeatCount | getInvertLogic | getIgnoreSync | getRxMode
  | getQcount | getStorIdx | getProcIdx | getTgtIdx | getCorrWidx | getFramesSent | getOvfCount => rfl
end

/-! ### Two runs that differ in what is never read (R73, R283, R284) -/
section
variable {s t : State} {i : Instr}

/-- No operation drives an input port (R21). -/
theorem Effect.port_eq (h : Effect s i t) : t.port = s.port := by
  cases h with
  | words pm xs =>
    rw [processWindow_frame]
    rfl
  | submit =>
    rw [submitCore_frame]
    rfl
  | code | read | rise | fall | overflow | noBoundary | boundary | discard | badHead | burst | firstFrame | repeatFrame
  | frameDone | burstEnd | enqueue | configure | receiveMode | reset =>
    simp [State.stored, State.restarted, State.overflowed, State.snapshot, State.nextFrame]

/-- An operation overwrites the outputs it starts from, so it answers the same from any. -/
theorem exec_of_outputs (i : Instr) (s : State) (r : Code) (q : Option U32) :
    exec i { s with result := r, q := q } = exec i s := by
  have hrun := exec_under s ⟨.reset, s.inbox, r, q⟩ (i := i) fun _ => rfl
  simp only [State.under, FaultBits.or_reset] at hrun
  rw [hrun]
  cases hs : exec i s with
  | next t =>
    have hinbox : t.inbox = s.inbox := (exec_effect hs).inbox_eq
    simp [answerUnder, State.after, ← hinbox]
  | fault | refused => rfl

theorem exec_of_inbox (l : List Issue) (h : exec i s = .next t) :
    exec i { s with inbox := l } = .next { t with inbox := l } := by
  have hrun := exec_under s ⟨.reset, l, s.result, s.q⟩ (i := i) fun _ => rfl
  rw [h] at hrun
  simpa only [State.under, answerUnder, State.after, FaultBits.or_reset] using hrun

/-- Settles O9: the outputs and the issue queue are unread values with no fault bit added. -/
theorem outputsAndFutureAreNeverRead : Obligations.OutputsAndFutureAreNeverRead :=
  fun i s => ⟨exec_of_outputs i s, fun l _ h =>
    ⟨(exec_effect h).inbox_eq, (exec_effect h).params_eq, (exec_effect h).port_eq, exec_of_inbox l h⟩⟩

/-- An operation raises under any fault bits the bits that it raises from none (R284). -/
theorem exec_of_faults (hrst : i ≠ .rst) (hstatus : i ≠ .getStatus) (h : exec i s = .next t) : ∃ d : FaultBits,
    ∀ f : FaultBits, exec i { s with faults := f } = .next { t with faults := d.or f } := by
  have hrun (f : FaultBits) : exec i { s with faults := f } =
      answerUnder ⟨f, s.inbox, s.result, s.q⟩ (exec i { s with faults := .reset }) :=
    exec_under { s with faults := .reset } ⟨f, s.inbox, s.result, s.q⟩
      fun hi => (hi.elim hrst hstatus).elim
  obtain ⟨u, hu, rfl⟩ := answerUnder_eq_next_iff.mp ((hrun s.faults).symm.trans h)
  refine ⟨u.faults, fun f => ?_⟩
  rw [hrun, hu]
  rfl

/-- Settles O12: the bits `d` are those raised from no fault bit set; and RST forgets the fault bits. -/
theorem noOperationTestsAFaultBit : Obligations.NoOperationTestsAFaultBit := by
  intro i s t hstatus h
  refine ⟨?_, fun hrst => ?_⟩
  · rintro rfl f
    rw [exec_rst] at h ⊢
    exact h
  · obtain ⟨d, hd⟩ := exec_of_faults hrst hstatus h
    refine ⟨d, fun f => (hd f).trans ?_⟩
    simp only [FaultBits.or, Bool.or_comm]
end
end Sys2Proof.Machine

/-! PROOFS. The statements of 70_reset_and_hazards.md: RST (R311), read from `exec_rst`, and the end of a run (R330), read
from `getLsbD_status` at the four bits of the mask. -/

namespace Sys2Proof.Machine

/-! ### Reset (R311) -/

/-- Settles O21: `exec_rst`; the reset state has the result `0x00` and drives no `Q`. -/
theorem rstRestoresResetAndStartsCapture : Obligations.RstRestoresResetAndStartsCapture :=
  fun s => exec_rst s

/-! ### The end of a run (R330) -/

/-- A masked word is zero exactly when each bit that the mask selects is clear. -/
theorem and_mask_eq_zero_iff {x m : U32} :
    x &&& m = 0#32 ↔ ∀ k, m.getLsbD k = true → x.getLsbD k = false := by
  constructor
  · intro h k hk
    have hbit : (x &&& m).getLsbD k = false := by rw [h, BitVec.getLsbD_zero]
    rwa [BitVec.getLsbD_and, hk, Bool.and_true] at hbit
  · intro h
    apply BitVec.eq_of_getLsbD_eq
    intro k _
    cases hk : m.getLsbD k with
    | false => simp [hk]
    | true => simp [h k hk]

/-- The mask of R330 selects `FRAME_IN_FLIGHT` and the three fault bits (R49). -/
theorem getLsbD_endMask (k : Nat) : (0x00000704#32).getLsbD k = true ↔ k = 2 ∨ k = 8 ∨ k = 9 ∨ k = 10 := by
  have hmask : 0x00000704#32 = flagAt true 2 ||| flagAt true 8 ||| flagAt true 9 ||| flagAt true 10 := by decide
  rw [hmask]
  simp [getLsbD_flagAt, or_assoc, @eq_comm _ _ k]

theorem acceptableEnd_iff {s : State} : s.acceptableEnd = true ↔
    s.frameInFlight = false ∧ s.faults.ovr = false ∧ s.faults.div0 = false ∧ s.faults.wovf = false := by
  simp only [State.acceptableEnd, State.noFault, Bool.and_eq_true, Bool.not_eq_true']
  tauto

/-- Settles O60: `STATUS` at each bit of the mask is one of the four flags of an acceptable end. -/
theorem acceptableEndIsVisibleInStatus : Obligations.AcceptableEndIsVisibleInStatus := by
  intro s
  rw [acceptableEnd_iff, and_mask_eq_zero_iff]
  simp [getLsbD_endMask, getLsbD_status]

end Sys2Proof.Machine
